-- ==== Sys2Proof/Word.lean ====
section
/-!
DEFINITION. The machine's words and their plainest arithmetic (spec 00_scope.md R5, R6).
-/
namespace Sys2Proof

/-- An integer register, an address, an instruction word (R20, R24, R100). -/
abbrev Word := BitVec 32

/-- A 64-bit quantity: a floating-point register pair (R32). -/
abbrev DWord := BitVec 64

/-- The smallest addressable unit of memory (R57). -/
abbrev Byte := BitVec 8

/-- A register number (R101). -/
abbrev Reg := BitVec 5

end Sys2Proof
end

