-- ==== Sys2Proof/Syntax.lean ====
section
/-!
DEFINITION. The instruction set: one constructor for every row of spec/opcode_table.json.
A suffix R or I tells a register form from an immediate form of one mnemonic, and Ss, Sd, Ds or Dd the
precision. `d` is the D-bit (R123), `auto` the autoincrement bit (R113). An offset whose low bits the encoding
forces to zero (R112, R114) is held without those bits.
-/
namespace Sys2Proof

/-- The control registers (R40, R101). -/
inductive CReg where
  | fir | psr | dirbase | db | fsr | epsr
  deriving DecidableEq, Repr

/-- Why a word is a reserved encoding (R130, R131, R329). -/
inductive Reserved where
  /-- primary opcode 06, 32, 36, 3A or 3E -/
  | primaryOpcode
  /-- a core-escape opcode that R116 marks reserved -/
  | coreEscape
  /-- a floating-point opcode or P-bit that R121 does not assign -/
  | fpOpcode
  /-- a precision combination that R124 does not admit -/
  | fpPrecision
  /-- a control-register number above 5 -/
  | controlRegister
  /-- operand-size bits that no mnemonic of R113 reaches -/
  | sizeBits
  /-- data-path control 1111 of pfmam or pfmsm -/
  | dataPathControl
  /-- fewer than four bytes, or more -/
  | length
  deriving DecidableEq, Repr

/-- Instructions. -/
inductive Instr where
  /-- `ld.b`, register form (R151). -/
  | ldbR (src1 : Reg) (src2 : Reg) (dest : Reg)
  /-- `ld.b`, offset form (R151). -/
  | ldbI (off : BitVec 16) (src2 : Reg) (dest : Reg)
  /-- `ld.s`, register form (R152). -/
  | ldsR (src1 : Reg) (src2 : Reg) (dest : Reg)
  /-- `ld.s`, offset form (R152). -/
  | ldsI (off : BitVec 15) (src2 : Reg) (dest : Reg)
  /-- `ld.l`, register form (R153). -/
  | ldlR (src1 : Reg) (src2 : Reg) (dest : Reg)
  /-- `ld.l`, offset form (R153). -/
  | ldlI (off : BitVec 15) (src2 : Reg) (dest : Reg)
  /-- `ixfr` (R168). -/
  | ixfr (src1 : Reg) (dest : Reg)
  /-- `st.b`, offset form (R154). -/
  | stb (src1 : Reg) (off : BitVec 16) (src2 : Reg)
  /-- `st.s`, offset form (R155). -/
  | sts (src1 : Reg) (off : BitVec 15) (src2 : Reg)
  /-- `st.l`, offset form (R156). -/
  | stl (src1 : Reg) (off : BitVec 15) (src2 : Reg)
  /-- `fld.l`, register form (R157). -/
  | fldlR (auto : Bool) (src1 : Reg) (src2 : Reg) (dest : Reg)
  /-- `fld.l`, offset form (R157). -/
  | fldlI (auto : Bool) (off : BitVec 14) (src2 : Reg) (dest : Reg)
  /-- `fld.d`, register form (R158). -/
  | flddR (auto : Bool) (src1 : Reg) (src2 : Reg) (dest : Reg)
  /-- `fld.d`, offset form (R158). -/
  | flddI (auto : Bool) (off : BitVec 13) (src2 : Reg) (dest : Reg)
  /-- `fld.q`, register form (R159). -/
  | fldqR (auto : Bool) (src1 : Reg) (src2 : Reg) (dest : Reg)
  /-- `fld.q`, offset form (R159). -/
  | fldqI (auto : Bool) (off : BitVec 13) (src2 : Reg) (dest : Reg)
  /-- `fst.l`, register form (R160). -/
  | fstlR (auto : Bool) (src1 : Reg) (src2 : Reg) (dest : Reg)
  /-- `fst.l`, offset form (R160). -/
  | fstlI (auto : Bool) (off : BitVec 14) (src2 : Reg) (dest : Reg)
  /-- `fst.d`, register form (R161). -/
  | fstdR (auto : Bool) (src1 : Reg) (src2 : Reg) (dest : Reg)
  /-- `fst.d`, offset form (R161). -/
  | fstdI (auto : Bool) (off : BitVec 13) (src2 : Reg) (dest : Reg)
  /-- `fst.q`, register form (R162). -/
  | fstqR (auto : Bool) (src1 : Reg) (src2 : Reg) (dest : Reg)
  /-- `fst.q`, offset form (R162). -/
  | fstqI (auto : Bool) (off : BitVec 13) (src2 : Reg) (dest : Reg)
  /-- `pfld.l`, register form (R164). -/
  | pfldlR (auto : Bool) (src1 : Reg) (src2 : Reg) (dest : Reg)
  /-- `pfld.l`, offset form (R164). -/
  | pfldlI (auto : Bool) (off : BitVec 14) (src2 : Reg) (dest : Reg)
  /-- `pfld.d`, register form (R165). -/
  | pflddR (auto : Bool) (src1 : Reg) (src2 : Reg) (dest : Reg)
  /-- `pfld.d`, offset form (R165). -/
  | pflddI (auto : Bool) (off : BitVec 13) (src2 : Reg) (dest : Reg)
  /-- `ld.c` (R241). -/
  | ldc (csrc : CReg) (dest : Reg)
  /-- `flush`, offset form (R163). -/
  | flush (auto : Bool) (off : BitVec 13) (src2 : Reg)
  /-- `st.c` (R243). -/
  | stc (src1 : Reg) (csrc : CReg)
  /-- `pst.d`, offset form (R167). -/
  | pstd (auto : Bool) (off : BitVec 13) (src2 : Reg) (dest : Reg)
  /-- `bri` (R215). -/
  | bri (src1 : Reg)
  /-- `trap` (R244). -/
  | trap (src1 : Reg) (src2 : Reg) (dest : Reg)
  /-- `lock` (R245). -/
  | lock
  /-- `calli` (R222). -/
  | calli (src1 : Reg)
  /-- `intovr` (R248). -/
  | intovr
  /-- `unlock` (R246). -/
  | unlock
  /-- `btne`, register form (R220). -/
  | btneR (src1 : Reg) (src2 : Reg) (off : BitVec 16)
  /-- `btne`, immediate form (R220). -/
  | btneI (imm : BitVec 5) (src2 : Reg) (off : BitVec 16)
  /-- `bte`, register form (R219). -/
  | bteR (src1 : Reg) (src2 : Reg) (off : BitVec 16)
  /-- `bte`, immediate form (R219). -/
  | bteI (imm : BitVec 5) (src2 : Reg) (off : BitVec 16)
  /-- `br` (R218). -/
  | br (off : BitVec 26)
  /-- `call` (R221). -/
  | call (off : BitVec 26)
  /-- `bc` (R211). -/
  | bc (off : BitVec 26)
  /-- `bc.t` (R212). -/
  | bcT (off : BitVec 26)
  /-- `bnc` (R213). -/
  | bnc (off : BitVec 26)
  /-- `bnc.t` (R214). -/
  | bncT (off : BitVec 26)
  /-- `addu`, register form (R182). -/
  | adduR (src1 : Reg) (src2 : Reg) (dest : Reg)
  /-- `addu`, immediate form (R182). -/
  | adduI (imm : BitVec 16) (src2 : Reg) (dest : Reg)
  /-- `subu`, register form (R184). -/
  | subuR (src1 : Reg) (src2 : Reg) (dest : Reg)
  /-- `subu`, immediate form (R184). -/
  | subuI (imm : BitVec 16) (src2 : Reg) (dest : Reg)
  /-- `adds`, register form (R181). -/
  | addsR (src1 : Reg) (src2 : Reg) (dest : Reg)
  /-- `adds`, immediate form (R181). -/
  | addsI (imm : BitVec 16) (src2 : Reg) (dest : Reg)
  /-- `subs`, register form (R183). -/
  | subsR (src1 : Reg) (src2 : Reg) (dest : Reg)
  /-- `subs`, immediate form (R183). -/
  | subsI (imm : BitVec 16) (src2 : Reg) (dest : Reg)
  /-- `shl`, register form (R194). -/
  | shlR (src1 : Reg) (src2 : Reg) (dest : Reg)
  /-- `shl`, immediate form (R194). -/
  | shlI (imm : BitVec 16) (src2 : Reg) (dest : Reg)
  /-- `shr`, register form (R195). -/
  | shrR (src1 : Reg) (src2 : Reg) (dest : Reg)
  /-- `shr`, immediate form (R195). -/
  | shrI (imm : BitVec 16) (src2 : Reg) (dest : Reg)
  /-- `shrd` (R197). -/
  | shrd (d : Bool) (src1 : Reg) (src2 : Reg) (dest : Reg)
  /-- `bla` (R216). -/
  | bla (src1 : Reg) (src2 : Reg) (off : BitVec 16)
  /-- `shra`, register form (R196). -/
  | shraR (src1 : Reg) (src2 : Reg) (dest : Reg)
  /-- `shra`, immediate form (R196). -/
  | shraI (imm : BitVec 16) (src2 : Reg) (dest : Reg)
  /-- `and`, register form (R185). -/
  | andR (src1 : Reg) (src2 : Reg) (dest : Reg)
  /-- `and`, immediate form (R185). -/
  | andI (imm : BitVec 16) (src2 : Reg) (dest : Reg)
  /-- `andh`, immediate form (R186). -/
  | andh (imm : BitVec 16) (src2 : Reg) (dest : Reg)
  /-- `andnot`, register form (R188). -/
  | andnotR (src1 : Reg) (src2 : Reg) (dest : Reg)
  /-- `andnot`, immediate form (R188). -/
  | andnotI (imm : BitVec 16) (src2 : Reg) (dest : Reg)
  /-- `andnoth`, immediate form (R187). -/
  | andnoth (imm : BitVec 16) (src2 : Reg) (dest : Reg)
  /-- `or`, register form (R189). -/
  | orR (src1 : Reg) (src2 : Reg) (dest : Reg)
  /-- `or`, immediate form (R189). -/
  | orI (imm : BitVec 16) (src2 : Reg) (dest : Reg)
  /-- `orh`, immediate form (R190). -/
  | orh (imm : BitVec 16) (src2 : Reg) (dest : Reg)
  /-- `xor`, register form (R191). -/
  | xorR (src1 : Reg) (src2 : Reg) (dest : Reg)
  /-- `xor`, immediate form (R191). -/
  | xorI (imm : BitVec 16) (src2 : Reg) (dest : Reg)
  /-- `xorh`, immediate form (R193). -/
  | xorh (imm : BitVec 16) (src2 : Reg) (dest : Reg)
  /-- `pfam.ss` (R324). -/
  | pfamSs (dpc : BitVec 4) (d : Bool) (src1 : Reg) (src2 : Reg) (dest : Reg)
  /-- `pfam.sd` (R324). -/
  | pfamSd (dpc : BitVec 4) (d : Bool) (src1 : Reg) (src2 : Reg) (dest : Reg)
  /-- `pfam.dd` (R324). -/
  | pfamDd (dpc : BitVec 4) (d : Bool) (src1 : Reg) (src2 : Reg) (dest : Reg)
  /-- `pfmam.ss` (R326). -/
  | pfmamSs (dpc : BitVec 4) (d : Bool) (src1 : Reg) (src2 : Reg) (dest : Reg)
  /-- `pfmam.sd` (R326). -/
  | pfmamSd (dpc : BitVec 4) (d : Bool) (src1 : Reg) (src2 : Reg) (dest : Reg)
  /-- `pfmam.dd` (R326). -/
  | pfmamDd (dpc : BitVec 4) (d : Bool) (src1 : Reg) (src2 : Reg) (dest : Reg)
  /-- `pfsm.ss` (R325). -/
  | pfsmSs (dpc : BitVec 4) (d : Bool) (src1 : Reg) (src2 : Reg) (dest : Reg)
  /-- `pfsm.sd` (R325). -/
  | pfsmSd (dpc : BitVec 4) (d : Bool) (src1 : Reg) (src2 : Reg) (dest : Reg)
  /-- `pfsm.dd` (R325). -/
  | pfsmDd (dpc : BitVec 4) (d : Bool) (src1 : Reg) (src2 : Reg) (dest : Reg)
  /-- `pfmsm.ss` (R327). -/
  | pfmsmSs (dpc : BitVec 4) (d : Bool) (src1 : Reg) (src2 : Reg) (dest : Reg)
  /-- `pfmsm.sd` (R327). -/
  | pfmsmSd (dpc : BitVec 4) (d : Bool) (src1 : Reg) (src2 : Reg) (dest : Reg)
  /-- `pfmsm.dd` (R327). -/
  | pfmsmDd (dpc : BitVec 4) (d : Bool) (src1 : Reg) (src2 : Reg) (dest : Reg)
  /-- `fmul.ss` (R267). -/
  | fmulSs (d : Bool) (src1 : Reg) (src2 : Reg) (dest : Reg)
  /-- `fmul.sd` (R267). -/
  | fmulSd (d : Bool) (src1 : Reg) (src2 : Reg) (dest : Reg)
  /-- `fmul.dd` (R267). -/
  | fmulDd (d : Bool) (src1 : Reg) (src2 : Reg) (dest : Reg)
  /-- `pfmul.ss` (R301). -/
  | pfmulSs (d : Bool) (src1 : Reg) (src2 : Reg) (dest : Reg)
  /-- `pfmul.sd` (R301). -/
  | pfmulSd (d : Bool) (src1 : Reg) (src2 : Reg) (dest : Reg)
  /-- `pfmul.dd` (R301). -/
  | pfmulDd (d : Bool) (src1 : Reg) (src2 : Reg) (dest : Reg)
  /-- `fmlow.dd` (R266). -/
  | fmlowDd (d : Bool) (src1 : Reg) (src2 : Reg) (dest : Reg)
  /-- `frcp.ss` (R268). -/
  | frcpSs (d : Bool) (src2 : Reg) (dest : Reg)
  /-- `frcp.sd` (R268). -/
  | frcpSd (d : Bool) (src2 : Reg) (dest : Reg)
  /-- `frcp.dd` (R268). -/
  | frcpDd (d : Bool) (src2 : Reg) (dest : Reg)
  /-- `frsqr.ss` (R269). -/
  | frsqrSs (d : Bool) (src2 : Reg) (dest : Reg)
  /-- `frsqr.sd` (R269). -/
  | frsqrSd (d : Bool) (src2 : Reg) (dest : Reg)
  /-- `frsqr.dd` (R269). -/
  | frsqrDd (d : Bool) (src2 : Reg) (dest : Reg)
  /-- `pfmul3.dd` (R302). -/
  | pfmul3Dd (d : Bool) (src1 : Reg) (src2 : Reg) (dest : Reg)
  /-- `fadd.ss` (R264). -/
  | faddSs (d : Bool) (src1 : Reg) (src2 : Reg) (dest : Reg)
  /-- `fadd.sd` (R264). -/
  | faddSd (d : Bool) (src1 : Reg) (src2 : Reg) (dest : Reg)
  /-- `fadd.dd` (R264). -/
  | faddDd (d : Bool) (src1 : Reg) (src2 : Reg) (dest : Reg)
  /-- `pfadd.ss` (R293). -/
  | pfaddSs (d : Bool) (src1 : Reg) (src2 : Reg) (dest : Reg)
  /-- `pfadd.sd` (R293). -/
  | pfaddSd (d : Bool) (src1 : Reg) (src2 : Reg) (dest : Reg)
  /-- `pfadd.dd` (R293). -/
  | pfaddDd (d : Bool) (src1 : Reg) (src2 : Reg) (dest : Reg)
  /-- `fsub.ss` (R265). -/
  | fsubSs (d : Bool) (src1 : Reg) (src2 : Reg) (dest : Reg)
  /-- `fsub.sd` (R265). -/
  | fsubSd (d : Bool) (src1 : Reg) (src2 : Reg) (dest : Reg)
  /-- `fsub.dd` (R265). -/
  | fsubDd (d : Bool) (src1 : Reg) (src2 : Reg) (dest : Reg)
  /-- `pfsub.ss` (R294). -/
  | pfsubSs (d : Bool) (src1 : Reg) (src2 : Reg) (dest : Reg)
  /-- `pfsub.sd` (R294). -/
  | pfsubSd (d : Bool) (src1 : Reg) (src2 : Reg) (dest : Reg)
  /-- `pfsub.dd` (R294). -/
  | pfsubDd (d : Bool) (src1 : Reg) (src2 : Reg) (dest : Reg)
  /-- `fix.ss` (R270). -/
  | fixSs (d : Bool) (src1 : Reg) (dest : Reg)
  /-- `fix.sd` (R270). -/
  | fixSd (d : Bool) (src1 : Reg) (dest : Reg)
  /-- `fix.dd` (R270). -/
  | fixDd (d : Bool) (src1 : Reg) (dest : Reg)
  /-- `pfix.ss` (R295). -/
  | pfixSs (d : Bool) (src1 : Reg) (dest : Reg)
  /-- `pfix.sd` (R295). -/
  | pfixSd (d : Bool) (src1 : Reg) (dest : Reg)
  /-- `pfix.dd` (R295). -/
  | pfixDd (d : Bool) (src1 : Reg) (dest : Reg)
  /-- `famov.ss` (R272). -/
  | famovSs (d : Bool) (src1 : Reg) (dest : Reg)
  /-- `famov.sd` (R272). -/
  | famovSd (d : Bool) (src1 : Reg) (dest : Reg)
  /-- `famov.ds` (R272). -/
  | famovDs (d : Bool) (src1 : Reg) (dest : Reg)
  /-- `famov.dd` (R272). -/
  | famovDd (d : Bool) (src1 : Reg) (dest : Reg)
  /-- `pfamov.ss` (R297). -/
  | pfamovSs (d : Bool) (src1 : Reg) (dest : Reg)
  /-- `pfamov.sd` (R297). -/
  | pfamovSd (d : Bool) (src1 : Reg) (dest : Reg)
  /-- `pfamov.ds` (R297). -/
  | pfamovDs (d : Bool) (src1 : Reg) (dest : Reg)
  /-- `pfamov.dd` (R297). -/
  | pfamovDd (d : Bool) (src1 : Reg) (dest : Reg)
  /-- `pfgt.ss` (R298). -/
  | pfgtSs (d : Bool) (src1 : Reg) (src2 : Reg) (dest : Reg)
  /-- `pfgt.dd` (R298). -/
  | pfgtDd (d : Bool) (src1 : Reg) (src2 : Reg) (dest : Reg)
  /-- `pfle.ss` (R299). -/
  | pfleSs (d : Bool) (src1 : Reg) (src2 : Reg) (dest : Reg)
  /-- `pfle.dd` (R299). -/
  | pfleDd (d : Bool) (src1 : Reg) (src2 : Reg) (dest : Reg)
  /-- `pfeq.ss` (R300). -/
  | pfeqSs (d : Bool) (src1 : Reg) (src2 : Reg) (dest : Reg)
  /-- `pfeq.dd` (R300). -/
  | pfeqDd (d : Bool) (src1 : Reg) (src2 : Reg) (dest : Reg)
  /-- `ftrunc.ss` (R271). -/
  | ftruncSs (d : Bool) (src1 : Reg) (dest : Reg)
  /-- `ftrunc.sd` (R271). -/
  | ftruncSd (d : Bool) (src1 : Reg) (dest : Reg)
  /-- `ftrunc.dd` (R271). -/
  | ftruncDd (d : Bool) (src1 : Reg) (dest : Reg)
  /-- `pftrunc.ss` (R296). -/
  | pftruncSs (d : Bool) (src1 : Reg) (dest : Reg)
  /-- `pftrunc.sd` (R296). -/
  | pftruncSd (d : Bool) (src1 : Reg) (dest : Reg)
  /-- `pftrunc.dd` (R296). -/
  | pftruncDd (d : Bool) (src1 : Reg) (dest : Reg)
  /-- `fxfr` (R169). -/
  | fxfr (d : Bool) (src1 : Reg) (dest : Reg)
  /-- `fiadd.ss` (R341). -/
  | fiaddSs (d : Bool) (src1 : Reg) (src2 : Reg) (dest : Reg)
  /-- `fiadd.dd` (R341). -/
  | fiaddDd (d : Bool) (src1 : Reg) (src2 : Reg) (dest : Reg)
  /-- `pfiadd.ss` (R351). -/
  | pfiaddSs (d : Bool) (src1 : Reg) (src2 : Reg) (dest : Reg)
  /-- `pfiadd.dd` (R351). -/
  | pfiaddDd (d : Bool) (src1 : Reg) (src2 : Reg) (dest : Reg)
  /-- `fisub.ss` (R342). -/
  | fisubSs (d : Bool) (src1 : Reg) (src2 : Reg) (dest : Reg)
  /-- `fisub.dd` (R342). -/
  | fisubDd (d : Bool) (src1 : Reg) (src2 : Reg) (dest : Reg)
  /-- `pfisub.ss` (R352). -/
  | pfisubSs (d : Bool) (src1 : Reg) (src2 : Reg) (dest : Reg)
  /-- `pfisub.dd` (R352). -/
  | pfisubDd (d : Bool) (src1 : Reg) (src2 : Reg) (dest : Reg)
  /-- `faddp` (R343). -/
  | faddp (d : Bool) (src1 : Reg) (src2 : Reg) (dest : Reg)
  /-- `pfaddp` (R353). -/
  | pfaddp (d : Bool) (src1 : Reg) (src2 : Reg) (dest : Reg)
  /-- `faddz` (R345). -/
  | faddz (d : Bool) (src1 : Reg) (src2 : Reg) (dest : Reg)
  /-- `pfaddz` (R354). -/
  | pfaddz (d : Bool) (src1 : Reg) (src2 : Reg) (dest : Reg)
  /-- `fzchkl` (R347). -/
  | fzchkl (d : Bool) (src1 : Reg) (src2 : Reg) (dest : Reg)
  /-- `pfzchkl` (R356). -/
  | pfzchkl (d : Bool) (src1 : Reg) (src2 : Reg) (dest : Reg)
  /-- `form` (R346). -/
  | form (d : Bool) (src1 : Reg) (dest : Reg)
  /-- `pform` (R355). -/
  | pform (d : Bool) (src1 : Reg) (dest : Reg)
  /-- `fzchks` (R348). -/
  | fzchks (d : Bool) (src1 : Reg) (src2 : Reg) (dest : Reg)
  /-- `pfzchks` (R357). -/
  | pfzchks (d : Bool) (src1 : Reg) (src2 : Reg) (dest : Reg)
  /-- `mov` (R198), an assembler pseudo-operation. -/
  | mov (src2 : Reg) (dest : Reg)
  /-- `nop` (R199), an assembler pseudo-operation. -/
  | nop
  /-- `fnop` (R200), an assembler pseudo-operation. -/
  | fnop (d : Bool)
  /-- `fmov.ss` (R273), an assembler pseudo-operation. -/
  | fmovSs (d : Bool) (src1 : Reg) (dest : Reg)
  /-- `fmov.dd` (R273), an assembler pseudo-operation. -/
  | fmovDd (d : Bool) (src1 : Reg) (dest : Reg)
  /-- `fmov.sd` (R273), an assembler pseudo-operation. -/
  | fmovSd (d : Bool) (src1 : Reg) (dest : Reg)
  /-- `fmov.ds` (R273), an assembler pseudo-operation. -/
  | fmovDs (d : Bool) (src1 : Reg) (dest : Reg)
  /-- `pfmov.ss` (R304), an assembler pseudo-operation. -/
  | pfmovSs (d : Bool) (src1 : Reg) (dest : Reg)
  /-- `pfmov.dd` (R304), an assembler pseudo-operation. -/
  | pfmovDd (d : Bool) (src1 : Reg) (dest : Reg)
  /-- `pfmov.sd` (R304), an assembler pseudo-operation. -/
  | pfmovSd (d : Bool) (src1 : Reg) (dest : Reg)
  /-- `pfmov.ds` (R304), an assembler pseudo-operation. -/
  | pfmovDs (d : Bool) (src1 : Reg) (dest : Reg)
  deriving DecidableEq, Repr

/-- The machine instruction that a pseudo-operation stands for (R142); every other instruction is its own. -/
def Instr.expand : Instr → Instr
  | .mov src2 dest => .shlR 0 src2 dest
  | .nop => .shlR 0 0 0
  | .fnop d => .shrd d 0 0 0
  | .fmovSs d src1 dest => .fiaddSs d src1 0 dest
  | .fmovDd d src1 dest => .fiaddDd d src1 0 dest
  | .fmovSd d src1 dest => .famovSd d src1 dest
  | .fmovDs d src1 dest => .famovDs d src1 dest
  | .pfmovSs d src1 dest => .pfiaddSs d src1 0 dest
  | .pfmovDd d src1 dest => .pfiaddDd d src1 0 dest
  | .pfmovSd d src1 dest => .pfamovSd d src1 dest
  | .pfmovDs d src1 dest => .pfamovDs d src1 dest
  | i => i

end Sys2Proof
end

