-- ==== Sys2Proof/WellFormed.lean ====
section
/-!
DEFINITION. Which instructions the encoding admits. The types of the fields carry every other bound (register
numbers, offsets without their forced-zero bits), so one check is left: data-path control 1111 of pfmam and pfmsm,
which R329 leaves unassigned.
-/
namespace Sys2Proof

/-- The data-path control codes that R329 assigns to pfmam and pfmsm. -/
def dpcAssigned (dpc : BitVec 4) : Bool := dpc != 15#4

/-- Every operand is one the encoding can hold and the spec assigns. -/
def Instr.WellFormed : Instr → Bool
  | .pfmamSs dpc _ _ _ _ => dpcAssigned dpc
  | .pfmamSd dpc _ _ _ _ => dpcAssigned dpc
  | .pfmamDd dpc _ _ _ _ => dpcAssigned dpc
  | .pfmsmSs dpc _ _ _ _ => dpcAssigned dpc
  | .pfmsmSd dpc _ _ _ _ => dpcAssigned dpc
  | .pfmsmDd dpc _ _ _ _ => dpcAssigned dpc
  | _ => true

end Sys2Proof
end

