-- ==== Sys2Proof/Decode.lean ====
section
/-!
DEFINITION. The decoder, total on any bytes and rejecting by name (R133), and after it the encoder, written from the
same tables of spec/30_encoding.md.
-/
namespace Sys2Proof

/-! ## Fields of an instruction word (R102 to R105, R115, R116, R120) -/

/-- Bits 31..26, the primary opcode. -/
def opcField (w : Word) : BitVec 6 := w.extractLsb' 26 6
/-- Bits 25..21, SRC2. -/
def src2Field (w : Word) : Reg := w.extractLsb' 21 5
/-- Bits 20..16, DEST. -/
def destField (w : Word) : Reg := w.extractLsb' 16 5
/-- Bits 15..11, SRC1. -/
def src1Field (w : Word) : Reg := w.extractLsb' 11 5
/-- Bits 10..0, the low field of the REG format. -/
def lowField (w : Word) : BitVec 11 := w.extractLsb' 0 11
/-- Bits 15..0, the immediate or offset (R103). -/
def immField (w : Word) : BitVec 16 := w.extractLsb' 0 16
/-- Bits 25..0, BROFFSET of the CTRL format (R115). -/
def broffField (w : Word) : BitVec 26 := w.extractLsb' 0 26
/-- Bits 20..16 and 10..0, the split offset (R104). -/
def splitField (w : Word) : BitVec 16 := destField w ++ lowField w
/-- Bits 4..0, the core-escape opcode (R116). -/
def escField (w : Word) : BitVec 5 := w.extractLsb' 0 5
/-- Bits 6..0, the floating-point opcode (R120). -/
def fopField (w : Word) : BitVec 7 := w.extractLsb' 0 7
/-- Bits 6..4, which pick a dual-operation row (R321). -/
def dualField (w : Word) : BitVec 3 := w.extractLsb' 4 3
/-- Bits 3..0, data-path control (R321). -/
def dpcField (w : Word) : BitVec 4 := w.extractLsb' 0 4
/-- Bit 10, P. -/
def pBit (w : Word) : Bool := w.getLsbD 10
/-- Bit 9, D. -/
def dBit (w : Word) : Bool := w.getLsbD 9
/-- Bit 8, S. -/
def sBit (w : Word) : Bool := w.getLsbD 8
/-- Bit 7, R. -/
def rBit (w : Word) : Bool := w.getLsbD 7

/-- The 15-bit offset above the size bit (R112). -/
def off15 (o : BitVec 16) : BitVec 15 := o.extractLsb' 1 15
/-- The offset of a 32-bit floating-point access (R114). -/
def off14 (o : BitVec 16) : BitVec 14 := o.extractLsb' 2 14
/-- The offset of a 64- or 128-bit floating-point access, a pixel store or a flush (R114). -/
def off13 (o : BitVec 16) : BitVec 13 := o.extractLsb' 3 13

/-- The control register a number names (R101, R131). -/
def creg? (n : BitVec 5) : Except Reserved CReg :=
  match n with
  | 0#5 => .ok .fir
  | 1#5 => .ok .psr
  | 2#5 => .ok .dirbase
  | 3#5 => .ok .db
  | 4#5 => .ok .fsr
  | 5#5 => .ok .epsr
  | _ => .error .controlRegister

/-- Suffix `.p` (R124): ss, sd, dd. -/
def precP (s r : Bool) (ss sd dd : Instr) : Except Reserved Instr :=
  match s, r with
  | false, false => .ok ss
  | false, true => .ok sd
  | true, true => .ok dd
  | true, false => .error .fpPrecision

/-- Suffix `.r` (R124): all four. -/
def precR (s r : Bool) (ss sd ds dd : Instr) : Except Reserved Instr :=
  match s, r with
  | false, false => .ok ss
  | false, true => .ok sd
  | true, false => .ok ds
  | true, true => .ok dd

/-- Suffix `.w` (R124): ss and dd. -/
def precW (s r : Bool) (ss dd : Instr) : Except Reserved Instr :=
  match s, r with
  | false, false => .ok ss
  | true, true => .ok dd
  | _, _ => .error .fpPrecision

/-- Only `.dd` (R124). -/
def precD (s r : Bool) (dd : Instr) : Except Reserved Instr :=
  match s, r with
  | true, true => .ok dd
  | _, _ => .error .fpPrecision

/-- An opcode with a scalar (P = 0) and a pipelined (P = 1) form (R121). -/
def byP (p : Bool) (scalar pipelined : Except Reserved Instr) : Except Reserved Instr :=
  if p then pipelined else scalar

/-- An opcode that has only the form with P = 0. -/
def onlyScalar (p : Bool) (scalar : Except Reserved Instr) : Except Reserved Instr :=
  if p then .error .fpOpcode else scalar

/-- An opcode that has only the form with P = 1. -/
def onlyPipelined (p : Bool) (pipelined : Except Reserved Instr) : Except Reserved Instr :=
  if p then pipelined else .error .fpOpcode

/-- Operand size of fld and fst, from bits 1 and 2 (R113). -/
def bySize (bit1 bit2 : Bool) (l d q : Instr) : Except Reserved Instr :=
  if bit1 then .ok l else if bit2 then .ok q else .ok d

/-- Operand size of pfld: 128 bits is reserved (R113, R130). -/
def bySizeZ (bit1 bit2 : Bool) (l d : Instr) : Except Reserved Instr :=
  if bit1 then .ok l else if bit2 then .error .sizeBits else .ok d

/-- pst.d and flush: both size bits are zero (R113, R130). -/
def bySizeD (bit1 bit2 : Bool) (d : Instr) : Except Reserved Instr :=
  if bit1 || bit2 then .error .sizeBits else .ok d

/-- pfmam and pfmsm: data-path control 1111 is not assigned (R329; log entry 28). -/
def byDpc (dpc : BitVec 4) (i : Except Reserved Instr) : Except Reserved Instr :=
  if dpcAssigned dpc then i else .error .dataPathControl

/-! ## The decoder (R133) -/

/-- The core-escape format (R116). -/
def decodeEscape (w : Word) : Except Reserved Instr :=
  match escField w with
  | 0x01#5 => .ok .lock
  | 0x02#5 => .ok (.calli (src1Field w))
  | 0x04#5 => .ok .intovr
  | 0x07#5 => .ok .unlock
  | _ => .error .coreEscape

/-- The floating-point format (R120, R121). -/
def decodeFp (w : Word) : Except Reserved Instr :=
  let s1 := src1Field w
  let s2 := src2Field w
  let dst := destField w
  let d := dBit w
  let p := pBit w
  let s := sBit w
  let r := rBit w
  let c := dpcField w
  match dualField w with
  | 0#3 =>
    byP p (byDpc c (precP s r (.pfmamSs c d s1 s2 dst) (.pfmamSd c d s1 s2 dst) (.pfmamDd c d s1 s2 dst)))
      (precP s r (.pfamSs c d s1 s2 dst) (.pfamSd c d s1 s2 dst) (.pfamDd c d s1 s2 dst))
  | 1#3 =>
    byP p (byDpc c (precP s r (.pfmsmSs c d s1 s2 dst) (.pfmsmSd c d s1 s2 dst) (.pfmsmDd c d s1 s2 dst)))
      (precP s r (.pfsmSs c d s1 s2 dst) (.pfsmSd c d s1 s2 dst) (.pfsmDd c d s1 s2 dst))
  | _ =>
    match fopField w with
    | 0x20#7 => byP p (precP s r (.fmulSs d s1 s2 dst) (.fmulSd d s1 s2 dst) (.fmulDd d s1 s2 dst))
        (precP s r (.pfmulSs d s1 s2 dst) (.pfmulSd d s1 s2 dst) (.pfmulDd d s1 s2 dst))
    | 0x21#7 => onlyScalar p (precD s r (.fmlowDd d s1 s2 dst))
    | 0x22#7 => onlyScalar p (precP s r (.frcpSs d s2 dst) (.frcpSd d s2 dst) (.frcpDd d s2 dst))
    | 0x23#7 => onlyScalar p (precP s r (.frsqrSs d s2 dst) (.frsqrSd d s2 dst) (.frsqrDd d s2 dst))
    | 0x24#7 => onlyPipelined p (precD s r (.pfmul3Dd d s1 s2 dst))
    | 0x30#7 => byP p (precP s r (.faddSs d s1 s2 dst) (.faddSd d s1 s2 dst) (.faddDd d s1 s2 dst))
        (precP s r (.pfaddSs d s1 s2 dst) (.pfaddSd d s1 s2 dst) (.pfaddDd d s1 s2 dst))
    | 0x31#7 => byP p (precP s r (.fsubSs d s1 s2 dst) (.fsubSd d s1 s2 dst) (.fsubDd d s1 s2 dst))
        (precP s r (.pfsubSs d s1 s2 dst) (.pfsubSd d s1 s2 dst) (.pfsubDd d s1 s2 dst))
    | 0x32#7 => byP p (precP s r (.fixSs d s1 dst) (.fixSd d s1 dst) (.fixDd d s1 dst))
        (precP s r (.pfixSs d s1 dst) (.pfixSd d s1 dst) (.pfixDd d s1 dst))
    | 0x33#7 => byP p (precR s r (.famovSs d s1 dst) (.famovSd d s1 dst) (.famovDs d s1 dst) (.famovDd d s1 dst))
        (precR s r (.pfamovSs d s1 dst) (.pfamovSd d s1 dst) (.pfamovDs d s1 dst) (.pfamovDd d s1 dst))
    | 0x34#7 => onlyPipelined p (precR s r (.pfgtSs d s1 s2 dst) (.pfleSs d s1 s2 dst) (.pfgtDd d s1 s2 dst)
        (.pfleDd d s1 s2 dst))
    | 0x35#7 => onlyPipelined p (.ok (if s then .pfeqDd d s1 s2 dst else .pfeqSs d s1 s2 dst))
    | 0x3A#7 => byP p (precP s r (.ftruncSs d s1 dst) (.ftruncSd d s1 dst) (.ftruncDd d s1 dst))
        (precP s r (.pftruncSs d s1 dst) (.pftruncSd d s1 dst) (.pftruncDd d s1 dst))
    | 0x40#7 => onlyScalar p (.ok (.fxfr d s1 dst))
    | 0x49#7 => byP p (precW s r (.fiaddSs d s1 s2 dst) (.fiaddDd d s1 s2 dst)) (precW s r (.pfiaddSs d s1 s2 dst) (.pfiaddDd d s1 s2 dst))
    | 0x4D#7 => byP p (precW s r (.fisubSs d s1 s2 dst) (.fisubDd d s1 s2 dst)) (precW s r (.pfisubSs d s1 s2 dst) (.pfisubDd d s1 s2 dst))
    | 0x50#7 => byP p (.ok (.faddp d s1 s2 dst)) (.ok (.pfaddp d s1 s2 dst))
    | 0x51#7 => byP p (.ok (.faddz d s1 s2 dst)) (.ok (.pfaddz d s1 s2 dst))
    | 0x57#7 => byP p (.ok (.fzchkl d s1 s2 dst)) (.ok (.pfzchkl d s1 s2 dst))
    | 0x5A#7 => byP p (.ok (.form d s1 dst)) (.ok (.pform d s1 dst))
    | 0x5F#7 => byP p (.ok (.fzchks d s1 s2 dst)) (.ok (.pfzchks d s1 s2 dst))
    | _ => .error .fpOpcode

/-- One instruction word (R133). -/
def decode (w : Word) : Except Reserved Instr :=
  let s1 := src1Field w
  let s2 := src2Field w
  let dst := destField w
  let imm := immField w
  let spl := splitField w
  let br := broffField w
  let a := w.getLsbD 0
  let b1 := w.getLsbD 1
  let b2 := w.getLsbD 2
  match opcField w with
  | 0x00#6 => .ok (.ldbR s1 s2 dst)
  | 0x01#6 => .ok (.ldbI imm s2 dst)
  | 0x02#6 => .ok (.ixfr s1 dst)
  | 0x03#6 => .ok (.stb s1 spl s2)
  | 0x04#6 => .ok (if a then .ldlR s1 s2 dst else .ldsR s1 s2 dst)
  | 0x05#6 => .ok (if a then .ldlI (off15 imm) s2 dst else .ldsI (off15 imm) s2 dst)
  | 0x07#6 => .ok (if a then .stl s1 (off15 spl) s2 else .sts s1 (off15 spl) s2)
  | 0x08#6 => bySize b1 b2 (.fldlR a s1 s2 dst) (.flddR a s1 s2 dst) (.fldqR a s1 s2 dst)
  | 0x09#6 => bySize b1 b2 (.fldlI a (off14 imm) s2 dst) (.flddI a (off13 imm) s2 dst) (.fldqI a (off13 imm) s2 dst)
  | 0x0A#6 => bySize b1 b2 (.fstlR a s1 s2 dst) (.fstdR a s1 s2 dst) (.fstqR a s1 s2 dst)
  | 0x0B#6 => bySize b1 b2 (.fstlI a (off14 imm) s2 dst) (.fstdI a (off13 imm) s2 dst) (.fstqI a (off13 imm) s2 dst)
  | 0x0C#6 => (creg? s2).map fun c => .ldc c dst
  | 0x0D#6 => bySizeD b1 b2 (.flush a (off13 imm) s2)
  | 0x0E#6 => (creg? s2).map fun c => .stc s1 c
  | 0x0F#6 => bySizeD b1 b2 (.pstd a (off13 imm) s2 dst)
  | 0x10#6 => .ok (.bri s1)
  | 0x11#6 => .ok (.trap s1 s2 dst)
  | 0x12#6 => decodeFp w
  | 0x13#6 => decodeEscape w
  | 0x14#6 => .ok (.btneR s1 s2 spl)
  | 0x15#6 => .ok (.btneI s1 s2 spl)
  | 0x16#6 => .ok (.bteR s1 s2 spl)
  | 0x17#6 => .ok (.bteI s1 s2 spl)
  | 0x18#6 => bySizeZ b1 b2 (.pfldlR a s1 s2 dst) (.pflddR a s1 s2 dst)
  | 0x19#6 => bySizeZ b1 b2 (.pfldlI a (off14 imm) s2 dst) (.pflddI a (off13 imm) s2 dst)
  | 0x1A#6 => .ok (.br br)
  | 0x1B#6 => .ok (.call br)
  | 0x1C#6 => .ok (.bc br)
  | 0x1D#6 => .ok (.bcT br)
  | 0x1E#6 => .ok (.bnc br)
  | 0x1F#6 => .ok (.bncT br)
  | 0x20#6 => .ok (.adduR s1 s2 dst)
  | 0x21#6 => .ok (.adduI imm s2 dst)
  | 0x22#6 => .ok (.subuR s1 s2 dst)
  | 0x23#6 => .ok (.subuI imm s2 dst)
  | 0x24#6 => .ok (.addsR s1 s2 dst)
  | 0x25#6 => .ok (.addsI imm s2 dst)
  | 0x26#6 => .ok (.subsR s1 s2 dst)
  | 0x27#6 => .ok (.subsI imm s2 dst)
  | 0x28#6 => .ok (.shlR s1 s2 dst)
  | 0x29#6 => .ok (.shlI imm s2 dst)
  | 0x2A#6 => .ok (.shrR s1 s2 dst)
  | 0x2B#6 => .ok (.shrI imm s2 dst)
  | 0x2C#6 => .ok (.shrd (dBit w) s1 s2 dst)
  | 0x2D#6 => .ok (.bla s1 s2 spl)
  | 0x2E#6 => .ok (.shraR s1 s2 dst)
  | 0x2F#6 => .ok (.shraI imm s2 dst)
  | 0x30#6 => .ok (.andR s1 s2 dst)
  | 0x31#6 => .ok (.andI imm s2 dst)
  | 0x33#6 => .ok (.andh imm s2 dst)
  | 0x34#6 => .ok (.andnotR s1 s2 dst)
  | 0x35#6 => .ok (.andnotI imm s2 dst)
  | 0x37#6 => .ok (.andnoth imm s2 dst)
  | 0x38#6 => .ok (.orR s1 s2 dst)
  | 0x39#6 => .ok (.orI imm s2 dst)
  | 0x3B#6 => .ok (.orh imm s2 dst)
  | 0x3C#6 => .ok (.xorR s1 s2 dst)
  | 0x3D#6 => .ok (.xorI imm s2 dst)
  | 0x3F#6 => .ok (.xorh imm s2 dst)
  | _ => .error .primaryOpcode

/-- The word that four bytes make, the first at the lowest address (R82). -/
def wordOfBytes (b0 b1 b2 b3 : Byte) : Word := b3 ++ b2 ++ b1 ++ b0

/-- The decoder on bytes, the first at the lowest address: one word is one instruction (R100). -/
def decodeBytes : List Byte → Except Reserved Instr
  | [b0, b1, b2, b3] => decode (wordOfBytes b0 b1 b2 b3)
  | _ => .error .length

/-- The bytes of a word, the first at the lowest address (R82). -/
def bytesOfWord (w : Word) : List Byte :=
  [w.extractLsb' 0 8, w.extractLsb' 8 8, w.extractLsb' 16 8, w.extractLsb' 24 8]

/-- The instruction the decoder reads from the bits of a row of spec/opcode_table.json, laid out as the hardware
stores a word. Every row has 32 bits, so the bits above `nbits` are those of `w` itself. -/
def decodeTableWord (nbits w : Nat) : Option Instr :=
  (decodeBytes (bytesOfWord (BitVec.ofNat 32 (w % 2 ^ nbits)))).toOption

/-! ## The encoder (R102 to R116, R120, R142) -/

/-- The REG format (R102). -/
def regWord (op : BitVec 6) (src2 dest src1 : Reg) (low : BitVec 11) : Word :=
  op ++ src2 ++ dest ++ src1 ++ low

/-- The 16-bit immediate variant (R103). -/
def immWord (op : BitVec 6) (src2 dest : Reg) (imm : BitVec 16) : Word :=
  op ++ src2 ++ dest ++ imm

/-- The split-offset variant (R104). -/
def splitWord (op : BitVec 6) (src2 src1 : Reg) (off : BitVec 16) : Word :=
  op ++ src2 ++ off.extractLsb' 11 5 ++ src1 ++ off.extractLsb' 0 11

/-- The CTRL format (R115). -/
def ctrlWord (op : BitVec 6) (off : BitVec 26) : Word := op ++ off

/-- The floating-point format (R120). -/
def fpWord (src2 dest src1 : Reg) (p d s r : Bool) (fop : BitVec 7) : Word :=
  0x12#6 ++ src2 ++ dest ++ src1 ++ BitVec.ofBool p ++ BitVec.ofBool d ++ BitVec.ofBool s ++ BitVec.ofBool r ++ fop

/-- Low field of a register-indexed floating-point load or store (R113). -/
def sizeLow (bit2 bit1 auto : Bool) : BitVec 11 :=
  0#8 ++ BitVec.ofBool bit2 ++ BitVec.ofBool bit1 ++ BitVec.ofBool auto

/-- Offset field of a 32-bit floating-point access (R113, R114). -/
def offL (off : BitVec 14) (auto : Bool) : BitVec 16 := off ++ 1#1 ++ BitVec.ofBool auto

/-- Offset field of a wider access: bit 2 picks 128 bits (R113, R114). -/
def offW (off : BitVec 13) (bit2 auto : Bool) : BitVec 16 :=
  off ++ BitVec.ofBool bit2 ++ 0#1 ++ BitVec.ofBool auto

/-- Offset field of a 16- or 32-bit integer access: bit 0 is the size (R107, R112). -/
def offX (off : BitVec 15) (long : Bool) : BitVec 16 := off ++ BitVec.ofBool long

/-- The number of a control register (R101). -/
def CReg.number : CReg → BitVec 5
  | .fir => 0#5
  | .psr => 1#5
  | .dirbase => 2#5
  | .db => 3#5
  | .fsr => 4#5
  | .epsr => 5#5

/-- The word of an instruction. Fields it does not use are zero; a suffix-less 64-bit graphics instruction has
S = R = 1 and fxfr S = R = 0 (R125, R132). -/
def encode : Instr → Word
  | .ldbR src1 src2 dest => regWord 0x00#6 src2 dest src1 0
  | .ldbI off src2 dest => immWord 0x01#6 src2 dest off
  | .ldsR src1 src2 dest => regWord 0x04#6 src2 dest src1 0
  | .ldsI off src2 dest => immWord 0x05#6 src2 dest (offX off false)
  | .ldlR src1 src2 dest => regWord 0x04#6 src2 dest src1 1
  | .ldlI off src2 dest => immWord 0x05#6 src2 dest (offX off true)
  | .ixfr src1 dest => regWord 0x02#6 0 dest src1 0
  | .stb src1 off src2 => splitWord 0x03#6 src2 src1 off
  | .sts src1 off src2 => splitWord 0x07#6 src2 src1 (offX off false)
  | .stl src1 off src2 => splitWord 0x07#6 src2 src1 (offX off true)
  | .fldlR auto src1 src2 dest => regWord 0x08#6 src2 dest src1 (sizeLow false true auto)
  | .fldlI auto off src2 dest => immWord 0x09#6 src2 dest (offL off auto)
  | .flddR auto src1 src2 dest => regWord 0x08#6 src2 dest src1 (sizeLow false false auto)
  | .flddI auto off src2 dest => immWord 0x09#6 src2 dest (offW off false auto)
  | .fldqR auto src1 src2 dest => regWord 0x08#6 src2 dest src1 (sizeLow true false auto)
  | .fldqI auto off src2 dest => immWord 0x09#6 src2 dest (offW off true auto)
  | .fstlR auto src1 src2 dest => regWord 0x0A#6 src2 dest src1 (sizeLow false true auto)
  | .fstlI auto off src2 dest => immWord 0x0B#6 src2 dest (offL off auto)
  | .fstdR auto src1 src2 dest => regWord 0x0A#6 src2 dest src1 (sizeLow false false auto)
  | .fstdI auto off src2 dest => immWord 0x0B#6 src2 dest (offW off false auto)
  | .fstqR auto src1 src2 dest => regWord 0x0A#6 src2 dest src1 (sizeLow true false auto)
  | .fstqI auto off src2 dest => immWord 0x0B#6 src2 dest (offW off true auto)
  | .pfldlR auto src1 src2 dest => regWord 0x18#6 src2 dest src1 (sizeLow false true auto)
  | .pfldlI auto off src2 dest => immWord 0x19#6 src2 dest (offL off auto)
  | .pflddR auto src1 src2 dest => regWord 0x18#6 src2 dest src1 (sizeLow false false auto)
  | .pflddI auto off src2 dest => immWord 0x19#6 src2 dest (offW off false auto)
  | .ldc csrc dest => regWord 0x0C#6 csrc.number dest 0 0
  | .flush auto off src2 => immWord 0x0D#6 src2 0 (offW off false auto)
  | .stc src1 csrc => regWord 0x0E#6 csrc.number 0 src1 0
  | .pstd auto off src2 dest => immWord 0x0F#6 src2 dest (offW off false auto)
  | .bri src1 => regWord 0x10#6 0 0 src1 0
  | .trap src1 src2 dest => regWord 0x11#6 src2 dest src1 0
  | .lock => regWord 0x13#6 0 0 0 1
  | .calli src1 => regWord 0x13#6 0 0 src1 2
  | .intovr => regWord 0x13#6 0 0 0 4
  | .unlock => regWord 0x13#6 0 0 0 7
  | .btneR src1 src2 off => splitWord 0x14#6 src2 src1 off
  | .btneI imm src2 off => splitWord 0x15#6 src2 imm off
  | .bteR src1 src2 off => splitWord 0x16#6 src2 src1 off
  | .bteI imm src2 off => splitWord 0x17#6 src2 imm off
  | .br off => ctrlWord 0x1A#6 off
  | .call off => ctrlWord 0x1B#6 off
  | .bc off => ctrlWord 0x1C#6 off
  | .bcT off => ctrlWord 0x1D#6 off
  | .bnc off => ctrlWord 0x1E#6 off
  | .bncT off => ctrlWord 0x1F#6 off
  | .adduR src1 src2 dest => regWord 0x20#6 src2 dest src1 0
  | .adduI imm src2 dest => immWord 0x21#6 src2 dest imm
  | .subuR src1 src2 dest => regWord 0x22#6 src2 dest src1 0
  | .subuI imm src2 dest => immWord 0x23#6 src2 dest imm
  | .addsR src1 src2 dest => regWord 0x24#6 src2 dest src1 0
  | .addsI imm src2 dest => immWord 0x25#6 src2 dest imm
  | .subsR src1 src2 dest => regWord 0x26#6 src2 dest src1 0
  | .subsI imm src2 dest => immWord 0x27#6 src2 dest imm
  | .shlR src1 src2 dest => regWord 0x28#6 src2 dest src1 0
  | .shlI imm src2 dest => immWord 0x29#6 src2 dest imm
  | .shrR src1 src2 dest => regWord 0x2A#6 src2 dest src1 0
  | .shrI imm src2 dest => immWord 0x2B#6 src2 dest imm
  | .shrd d src1 src2 dest => regWord 0x2C#6 src2 dest src1 (0#1 ++ BitVec.ofBool d ++ 0#9)
  | .bla src1 src2 off => splitWord 0x2D#6 src2 src1 off
  | .shraR src1 src2 dest => regWord 0x2E#6 src2 dest src1 0
  | .shraI imm src2 dest => immWord 0x2F#6 src2 dest imm
  | .andR src1 src2 dest => regWord 0x30#6 src2 dest src1 0
  | .andI imm src2 dest => immWord 0x31#6 src2 dest imm
  | .andh imm src2 dest => immWord 0x33#6 src2 dest imm
  | .andnotR src1 src2 dest => regWord 0x34#6 src2 dest src1 0
  | .andnotI imm src2 dest => immWord 0x35#6 src2 dest imm
  | .andnoth imm src2 dest => immWord 0x37#6 src2 dest imm
  | .orR src1 src2 dest => regWord 0x38#6 src2 dest src1 0
  | .orI imm src2 dest => immWord 0x39#6 src2 dest imm
  | .orh imm src2 dest => immWord 0x3B#6 src2 dest imm
  | .xorR src1 src2 dest => regWord 0x3C#6 src2 dest src1 0
  | .xorI imm src2 dest => immWord 0x3D#6 src2 dest imm
  | .xorh imm src2 dest => immWord 0x3F#6 src2 dest imm
  | .pfamSs dpc d src1 src2 dest => fpWord src2 dest src1 true d false false (0#3 ++ dpc)
  | .pfamSd dpc d src1 src2 dest => fpWord src2 dest src1 true d false true (0#3 ++ dpc)
  | .pfamDd dpc d src1 src2 dest => fpWord src2 dest src1 true d true true (0#3 ++ dpc)
  | .pfmamSs dpc d src1 src2 dest => fpWord src2 dest src1 false d false false (0#3 ++ dpc)
  | .pfmamSd dpc d src1 src2 dest => fpWord src2 dest src1 false d false true (0#3 ++ dpc)
  | .pfmamDd dpc d src1 src2 dest => fpWord src2 dest src1 false d true true (0#3 ++ dpc)
  | .pfsmSs dpc d src1 src2 dest => fpWord src2 dest src1 true d false false (1#3 ++ dpc)
  | .pfsmSd dpc d src1 src2 dest => fpWord src2 dest src1 true d false true (1#3 ++ dpc)
  | .pfsmDd dpc d src1 src2 dest => fpWord src2 dest src1 true d true true (1#3 ++ dpc)
  | .pfmsmSs dpc d src1 src2 dest => fpWord src2 dest src1 false d false false (1#3 ++ dpc)
  | .pfmsmSd dpc d src1 src2 dest => fpWord src2 dest src1 false d false true (1#3 ++ dpc)
  | .pfmsmDd dpc d src1 src2 dest => fpWord src2 dest src1 false d true true (1#3 ++ dpc)
  | .fmulSs d src1 src2 dest => fpWord src2 dest src1 false d false false 0x20#7
  | .fmulSd d src1 src2 dest => fpWord src2 dest src1 false d false true 0x20#7
  | .fmulDd d src1 src2 dest => fpWord src2 dest src1 false d true true 0x20#7
  | .pfmulSs d src1 src2 dest => fpWord src2 dest src1 true d false false 0x20#7
  | .pfmulSd d src1 src2 dest => fpWord src2 dest src1 true d false true 0x20#7
  | .pfmulDd d src1 src2 dest => fpWord src2 dest src1 true d true true 0x20#7
  | .fmlowDd d src1 src2 dest => fpWord src2 dest src1 false d true true 0x21#7
  | .frcpSs d src2 dest => fpWord src2 dest 0 false d false false 0x22#7
  | .frcpSd d src2 dest => fpWord src2 dest 0 false d false true 0x22#7
  | .frcpDd d src2 dest => fpWord src2 dest 0 false d true true 0x22#7
  | .frsqrSs d src2 dest => fpWord src2 dest 0 false d false false 0x23#7
  | .frsqrSd d src2 dest => fpWord src2 dest 0 false d false true 0x23#7
  | .frsqrDd d src2 dest => fpWord src2 dest 0 false d true true 0x23#7
  | .pfmul3Dd d src1 src2 dest => fpWord src2 dest src1 true d true true 0x24#7
  | .faddSs d src1 src2 dest => fpWord src2 dest src1 false d false false 0x30#7
  | .faddSd d src1 src2 dest => fpWord src2 dest src1 false d false true 0x30#7
  | .faddDd d src1 src2 dest => fpWord src2 dest src1 false d true true 0x30#7
  | .pfaddSs d src1 src2 dest => fpWord src2 dest src1 true d false false 0x30#7
  | .pfaddSd d src1 src2 dest => fpWord src2 dest src1 true d false true 0x30#7
  | .pfaddDd d src1 src2 dest => fpWord src2 dest src1 true d true true 0x30#7
  | .fsubSs d src1 src2 dest => fpWord src2 dest src1 false d false false 0x31#7
  | .fsubSd d src1 src2 dest => fpWord src2 dest src1 false d false true 0x31#7
  | .fsubDd d src1 src2 dest => fpWord src2 dest src1 false d true true 0x31#7
  | .pfsubSs d src1 src2 dest => fpWord src2 dest src1 true d false false 0x31#7
  | .pfsubSd d src1 src2 dest => fpWord src2 dest src1 true d false true 0x31#7
  | .pfsubDd d src1 src2 dest => fpWord src2 dest src1 true d true true 0x31#7
  | .fixSs d src1 dest => fpWord 0 dest src1 false d false false 0x32#7
  | .fixSd d src1 dest => fpWord 0 dest src1 false d false true 0x32#7
  | .fixDd d src1 dest => fpWord 0 dest src1 false d true true 0x32#7
  | .pfixSs d src1 dest => fpWord 0 dest src1 true d false false 0x32#7
  | .pfixSd d src1 dest => fpWord 0 dest src1 true d false true 0x32#7
  | .pfixDd d src1 dest => fpWord 0 dest src1 true d true true 0x32#7
  | .famovSs d src1 dest => fpWord 0 dest src1 false d false false 0x33#7
  | .famovSd d src1 dest => fpWord 0 dest src1 false d false true 0x33#7
  | .famovDs d src1 dest => fpWord 0 dest src1 false d true false 0x33#7
  | .famovDd d src1 dest => fpWord 0 dest src1 false d true true 0x33#7
  | .pfamovSs d src1 dest => fpWord 0 dest src1 true d false false 0x33#7
  | .pfamovSd d src1 dest => fpWord 0 dest src1 true d false true 0x33#7
  | .pfamovDs d src1 dest => fpWord 0 dest src1 true d true false 0x33#7
  | .pfamovDd d src1 dest => fpWord 0 dest src1 true d true true 0x33#7
  | .pfgtSs d src1 src2 dest => fpWord src2 dest src1 true d false false 0x34#7
  | .pfgtDd d src1 src2 dest => fpWord src2 dest src1 true d true false 0x34#7
  | .pfleSs d src1 src2 dest => fpWord src2 dest src1 true d false true 0x34#7
  | .pfleDd d src1 src2 dest => fpWord src2 dest src1 true d true true 0x34#7
  | .pfeqSs d src1 src2 dest => fpWord src2 dest src1 true d false false 0x35#7
  | .pfeqDd d src1 src2 dest => fpWord src2 dest src1 true d true true 0x35#7
  | .ftruncSs d src1 dest => fpWord 0 dest src1 false d false false 0x3A#7
  | .ftruncSd d src1 dest => fpWord 0 dest src1 false d false true 0x3A#7
  | .ftruncDd d src1 dest => fpWord 0 dest src1 false d true true 0x3A#7
  | .pftruncSs d src1 dest => fpWord 0 dest src1 true d false false 0x3A#7
  | .pftruncSd d src1 dest => fpWord 0 dest src1 true d false true 0x3A#7
  | .pftruncDd d src1 dest => fpWord 0 dest src1 true d true true 0x3A#7
  | .fxfr d src1 dest => fpWord 0 dest src1 false d false false 0x40#7
  | .fiaddSs d src1 src2 dest => fpWord src2 dest src1 false d false false 0x49#7
  | .fiaddDd d src1 src2 dest => fpWord src2 dest src1 false d true true 0x49#7
  | .pfiaddSs d src1 src2 dest => fpWord src2 dest src1 true d false false 0x49#7
  | .pfiaddDd d src1 src2 dest => fpWord src2 dest src1 true d true true 0x49#7
  | .fisubSs d src1 src2 dest => fpWord src2 dest src1 false d false false 0x4D#7
  | .fisubDd d src1 src2 dest => fpWord src2 dest src1 false d true true 0x4D#7
  | .pfisubSs d src1 src2 dest => fpWord src2 dest src1 true d false false 0x4D#7
  | .pfisubDd d src1 src2 dest => fpWord src2 dest src1 true d true true 0x4D#7
  | .faddp d src1 src2 dest => fpWord src2 dest src1 false d true true 0x50#7
  | .pfaddp d src1 src2 dest => fpWord src2 dest src1 true d true true 0x50#7
  | .faddz d src1 src2 dest => fpWord src2 dest src1 false d true true 0x51#7
  | .pfaddz d src1 src2 dest => fpWord src2 dest src1 true d true true 0x51#7
  | .fzchkl d src1 src2 dest => fpWord src2 dest src1 false d true true 0x57#7
  | .pfzchkl d src1 src2 dest => fpWord src2 dest src1 true d true true 0x57#7
  | .form d src1 dest => fpWord 0 dest src1 false d true true 0x5A#7
  | .pform d src1 dest => fpWord 0 dest src1 true d true true 0x5A#7
  | .fzchks d src1 src2 dest => fpWord src2 dest src1 false d true true 0x5F#7
  | .pfzchks d src1 src2 dest => fpWord src2 dest src1 true d true true 0x5F#7
  | .mov src2 dest => regWord 0x28#6 src2 dest 0 0
  | .nop => regWord 0x28#6 0 0 0 0
  | .fnop d => regWord 0x2C#6 0 0 0 (0#1 ++ BitVec.ofBool d ++ 0#9)
  | .fmovSs d src1 dest => fpWord 0 dest src1 false d false false 0x49#7
  | .fmovDd d src1 dest => fpWord 0 dest src1 false d true true 0x49#7
  | .fmovSd d src1 dest => fpWord 0 dest src1 false d false true 0x33#7
  | .fmovDs d src1 dest => fpWord 0 dest src1 false d true false 0x33#7
  | .pfmovSs d src1 dest => fpWord 0 dest src1 true d false false 0x49#7
  | .pfmovDd d src1 dest => fpWord 0 dest src1 true d true true 0x49#7
  | .pfmovSd d src1 dest => fpWord 0 dest src1 true d false true 0x33#7
  | .pfmovDs d src1 dest => fpWord 0 dest src1 true d true false 0x33#7

/-- The bytes of an instruction as the hardware stores them. -/
def encodeBytes (i : Instr) : List Byte := bytesOfWord (encode i)

end Sys2Proof
end

