-- ==== Sys2Proof/Config.lean ====
section
/-!
DEFINITION. What an implementation fixes (spec 00_scope.md R4) and the free values.
A constant without a body is a value the spec leaves open: nothing can be proved of it.
-/
namespace Sys2Proof.Config

/-- `TRAP_VECTOR` (R4, R405). PRESUMED (GK12). -/
def trapVector : Word := 0xFFFFFF00#32

/-- `RESET_PC` (R4, R451). PRESUMED (GK13). -/
def resetPc : Word := 0xFFFFFF00#32

/-- `CACHE_BLOCK`: bytes of a data-cache block, used by flush (R4, R163, R473). -/
def cacheBlock : Nat := 32

/-- The `n`-th free value a run draws: a value some rule calls any value. No body (log entry 4). -/
opaque freeBits : Nat → BitVec 128

/-- The `n`-th free choice a run makes (U10, U14). No body (log entry 4). -/
opaque freeBool : Nat → Bool

/-- `DIM_SKIP_FP_HALF` (R385, D53): open, a proof must hold for both values. No body. -/
opaque dimSkipFpHalf : Bool

/-- What a floating-point configuration function (R261) is asked: the operation, the two
precisions (double or not), the rounding mode, flush-zero, and the operand patterns. -/
structure FpQuery where
  op : Nat
  srcDouble : Bool
  resDouble : Bool
  rm : BitVec 2
  fz : Bool
  a : DWord
  b : DWord
  deriving DecidableEq, Repr

/-- The value a configuration function returns where no rule states one (U15). No body (log entry 8). -/
opaque fpValue : FpQuery → DWord

/-- The source-exception answer of a configuration function where no rule states one. No body. -/
opaque fpSource : FpQuery → Bool

/-- The condition a compare of a NaN returns where no rule states one (R299). No body. -/
opaque fpCond : FpQuery → Bool

/-- How two operands compare where one is infinite or denormal and neither is a NaN: one order for all three compares
(R299, log entry 32). No body. -/
opaque fpOrder : FpQuery → Ordering

/-- frcp and frsqr of a normal operand: inexact is reported (R268, log entry 9). No body. -/
opaque fpInexact : FpQuery → Bool

/-- frcp and frsqr of a normal operand with a denormal result: underflow is reported (R268, log entry 9). No body. -/
opaque fpUnderflow : FpQuery → Bool

end Sys2Proof.Config
end

