-- ==== Sys2Proof/Machine/State.lean ====
section
/-!
DEFINITION. The state of the machine (spec/10_state.md), the reasons a step can stop, and the state after reset
(spec/70_reset_and_hazards.md R451). State is plain data.
-/
namespace Sys2Proof.Machine

/-- Execution mode (R55, R382). -/
inductive Mode where
  | single | dual
  deriving DecidableEq, Repr

/-- Floating-point precision, which is also an operand width (R260): 32 or 64 bits. -/
inductive Prec where
  | s | d
  deriving DecidableEq, Repr

/-- The mode a trap return selects for the step after its delay slot (R388). -/
structure ModeSel where
  mode : Mode
  armed : Bool
  deriving DecidableEq, Repr

/-- Processor status, field by field (R41). Bit positions are PRESUMED (GK2, log entry 5). -/
structure Psr where
  br : Bool
  bw : Bool
  cc : Bool
  lcc : Bool
  im : Bool
  pim : Bool
  u : Bool
  pu : Bool
  it : Bool
  inn : Bool
  iat : Bool
  dat : Bool
  ft : Bool
  ds : Bool
  dim : Bool
  knf : Bool
  rsvd : Bool
  sc : BitVec 5
  ps : BitVec 2
  pm : Byte
  deriving DecidableEq, Repr

/-- Extended processor status (R43). Bit positions are PRESUMED (GK3, log entry 5). `int` is the interrupt request
line (R412), which only the environment sets. -/
structure Epsr where
  ptype : BitVec 8
  stepping : BitVec 5
  il : Bool
  wp : Bool
  rsvdLo : BitVec 2
  int : Bool
  dcs : BitVec 4
  pbm : Bool
  be : Bool
  of : Bool
  rsvdHi : BitVec 7
  deriving DecidableEq, Repr

/-- Directory base (R44). Bit positions are PRESUMED (GK7, log entry 5). -/
structure Dirbase where
  ate : Bool
  dps : BitVec 3
  bl : Bool
  iti : Bool
  rsvd : Bool
  cs8 : Bool
  rb : BitVec 2
  rc : BitVec 2
  dtb : BitVec 20
  deriving DecidableEq, Repr

/-- An entry of an arithmetic pipeline (R291): undefined, or a value with its precision. A single-precision value
stands in the low 32 bits. -/
inductive Entry where
  | undef
  | val (v : DWord) (prec : Prec)
  deriving DecidableEq, Repr

/-- An entry of the load pipeline (R52, R166): the address, the data read at issue, and the width. -/
inductive LoadEntry where
  | undef
  | val (addr : Word) (v : DWord) (prec : Prec)
  deriving DecidableEq, Repr

/-- A three-stage pipeline, `q1` the newest entry and `q3` the last stage (R291). -/
structure Pipe3 (α : Type) where
  q1 : α
  q2 : α
  q3 : α
  deriving DecidableEq, Repr

/-- The multiplier pipeline, of three or two stages (R50, R301). -/
inductive MPipe where
  | three (q1 q2 q3 : Entry)
  | two (q1 q2 : Entry)
  deriving DecidableEq, Repr

/-- KR, KI or T: 64 bits and the precision of the instruction that loaded it (R35, R322). -/
structure FpSpecial where
  v : DWord
  prec : Prec
  deriving DecidableEq, Repr

/-- The saved context of a trap that no trap return has ended yet (R409, R416, log entry 14). -/
inductive TrapFrame where
  /-- a nested trap has overwritten it -/
  | lost
  /-- the address latched in fir, and whether the instruction there stood in a delay slot -/
  | taken (fir : Word) (inSlot : Bool)
  deriving DecidableEq, Repr

/-- Everything the spec gives the machine. -/
structure State where
  /-- integer registers; element 0 is never read (R20, R21) -/
  r : Vector Word 32
  /-- floating-point registers; elements 0 and 1 are never read (R31) -/
  f : Vector Word 32
  /-- address of the instruction, or pair, to execute (R24) -/
  pc : Word
  /-- pending target of a delayed transfer (R27, R210) -/
  delay : Option Word
  /-- pending mode selection of a trap return (R215, R388) -/
  delayMode : Option ModeSel
  /-- the core half of the next pair is skipped (R385, D53) -/
  skipCore : Bool
  mode : Mode
  /-- a mode change is requested (R382) -/
  armed : Bool
  psr : Psr
  epsr : Epsr
  dirbase : Dirbase
  /-- data breakpoint (R45) -/
  db : Word
  /-- floating-point status (R47); bit positions are PRESUMED (GK11, log entry 5) -/
  fsr : Word
  /-- the address `ld.c fir` returns once after a trap (R421) -/
  firLatched : Option Word
  /-- addresses of the instructions that have trapped in a delay slot (R225, R409, log entry 13) -/
  slotFirs : List Word
  /-- the contexts of the traps not returned from, the latest first (R416, log entry 14) -/
  frames : List TrapFrame
  kr : FpSpecial
  ki : FpSpecial
  t : FpSpecial
  merge : DWord
  aPipe : Pipe3 Entry
  mPipe : MPipe
  gPipe : Entry
  lPipe : Pipe3 LoadEntry
  /-- a floating-point result exception waits to be reported (R58, R407) -/
  fpPending : Bool
  /-- from `lock` to the first load or store after `unlock` (R54, R245, R246) -/
  busLock : Bool
  /-- memory: address and byte, addresses rising, no byte 0 listed (R57; Machine/Memory.lean) -/
  mem : List Host.Cell
  /-- bytes that flush left undefined (R163) -/
  undef : List Nat
  /-- addresses, multiples of 4, of the words a store has touched (R80) -/
  stored : List Nat
  /-- address ranges, first and last byte, outside `MEM_POPULATED` (R76, log entry 22) -/
  holes : List (Nat × Nat)
  /-- `HALT_PC` of the harness (R455, log entry 22) -/
  haltPc : Option Word
  /-- the MODEL's own: how many free values have been drawn (log entry 4) -/
  free : Nat
  deriving DecidableEq, Repr

/-- Why a step ends in a fault. -/
inductive Fault where
  /-- Raised by `step` at HALT_PC with no transfer pending in single-instruction mode: the run is over (R455).
  Safe: the machine stops as the harness asked. -/
  | halted
  deriving DecidableEq, Repr

/-- Why a step is refused: the spec gives the case no effect (R130, R403, R460). Every refusal is safe: the machine
stops where the hardware does something unknown. -/
inductive Refusal where
  /-- Raised by an arm of `exec` that has no meaning yet. Safe. -/
  | notModelled (mnemonic : String)
  /-- Raised by `step`: the word is a reserved encoding (R130). Safe. -/
  | reservedEncoding (why : Reserved) (word : Word)
  /-- Raised by instructions with a 64- or 128-bit register operand of a wrong number (R33, R460 row 1). Safe. -/
  | registerAlignment
  /-- Raised by control transfers, trap and intovr in a delay slot (R223, R460 row 2). Safe. -/
  | controlInSlot
  /-- Raised by `calli [r1]` (R222, R460 row 2). Safe. -/
  | calliR1
  /-- Raised by bri and calli with a target whose low two bits are not 0 (R217, R460 row 3). Safe. -/
  | misalignedTarget
  /-- Raised by bla and register-indexed autoincrement with isrc1 = isrc2 (R170, R216, R460 row 4). Safe. -/
  | restrictionF
  /-- Raised by pfmul and pfmul3 with fsrc1 = fdest (R303, R460 row 5). Safe. -/
  | restrictionC
  /-- Raised by dual operations with fsrc1 = fdest (R331, R460 row 5). Safe. -/
  | restrictionD
  /-- Raised by pipelined graphics instructions with a source equal to fdest (R350, R460 row 5). Safe. -/
  | restrictionE
  /-- Raised when a pipeline delivers an entry of another precision to a register (R291, R460 row 6). Safe. -/
  | pipePrecision
  /-- Raised by a pipelined multiply of another stage count than the entries in flight (R301, R460 row 7). Safe. -/
  | mulStageCount
  /-- Raised by pfam.sd, pfsm.sd, pfmam.sd and pfmsm.sd (R330, R460 row 8). Safe. -/
  | mixedPrecisionDual
  /-- Raised by faddp, pfaddp and pst.d when PS = 11 (R344, R167, R460 row 9). Safe. -/
  | pixelSize
  /-- Raised by stores to data that a pfld has read and not delivered (R166, R460 row 10). Safe. -/
  | storeToPendingPfld
  /-- Raised by `step` when it fetches a word that a store has touched (R80, R460 row 11). Safe. -/
  | fetchOfStored
  /-- Raised by st.c to psr that sets BR or BW (R243, R430, R460 row 12). Safe. -/
  | dataBreakpoint
  /-- Raised by st.c to dirbase that sets ATE or ITI (R243, R460 row 12). Safe. -/
  | addressTranslation
  /-- Raised by st.c to epsr that sets BE (R243, R460 row 12). Safe. -/
  | bigEndian
  /-- Raised by trap entry while dirbase.BL = 1 (R403, R460 row 13). Safe. -/
  | trapInLockedSequence
  /-- Raised by a trap return with psr.KNF = 1 (R422, R460 row 14). Safe. -/
  | returnWithKnf
  /-- Raised by a trap return to an instruction that trapped in a delay slot (R225, R409, R460 row 14). Safe. -/
  | returnIntoSlot
  /-- Raised by a trap return whose saved state a nested trap has overwritten (R416, R460 row 14). Safe. -/
  | outerContextLost
  /-- Raised by `step` when pc is not a multiple of 4 (R84). Safe. -/
  | misalignedPc
  /-- Raised by `step` in dual mode when pc is not a multiple of 8 (R381, R460 row 15). Safe. -/
  | misalignedPair
  /-- Raised by a pair with the wrong kind of instruction in a half (R383, R460 row 15). Safe. -/
  | pairHalves
  /-- Raised by a pair whose halves write one state element (R384, R460 row 15). Safe. -/
  | pairConflict
  /-- Raised by call and calli in dual mode (R385, R460 row 15). Safe. -/
  | callInDual
  /-- Raised by a control transfer in a mode-transition step (R386, R460 row 15). Safe. -/
  | controlInTransition
  /-- Raised by the two excursions of R382 that no source shows (R460 row 15). Safe. -/
  | modeExcursion
  deriving DecidableEq, Repr

/-- psr after reset (R451); fields without a reset value are 0 (log entry 1). -/
def Psr.reset : Psr where
  br := false
  bw := false
  cc := false
  lcc := false
  im := false
  pim := false
  u := false
  pu := false
  it := false
  inn := false
  iat := false
  dat := false
  ft := false
  ds := false
  dim := false
  knf := false
  rsvd := false
  sc := 0
  ps := 0
  pm := 0

/-- epsr after reset (R451). The processor type is the family's 1 (GK3, log entry 2). -/
def Epsr.reset : Epsr where
  ptype := 1
  stepping := 0
  il := false
  wp := false
  rsvdLo := 0
  int := false
  dcs := 0
  pbm := false
  be := false
  of := false
  rsvdHi := 0

/-- dirbase after reset (R451); DTB has no reset value and is 0 (log entry 1). -/
def Dirbase.reset : Dirbase where
  ate := false
  dps := 0
  bl := false
  iti := false
  rsvd := false
  cs8 := false
  rb := 0
  rc := 0
  dtb := 0

/-- The machine right after reset (R451). -/
def State.reset : State where
  r := Vector.replicate 32 0
  f := Vector.replicate 32 0
  pc := Config.resetPc
  delay := none
  delayMode := none
  skipCore := false
  mode := .single
  armed := false
  psr := Psr.reset
  epsr := Epsr.reset
  dirbase := Dirbase.reset
  db := 0
  fsr := 0
  firLatched := none
  slotFirs := []
  frames := []
  kr := ⟨0, .s⟩
  ki := ⟨0, .s⟩
  t := ⟨0, .s⟩
  merge := 0
  aPipe := ⟨.undef, .undef, .undef⟩
  mPipe := .three .undef .undef .undef
  gPipe := .undef
  lPipe := ⟨.undef, .undef, .undef⟩
  fpPending := false
  busLock := false
  mem := []
  undef := []
  stored := []
  holes := []
  haltPc := none
  free := 0

end Sys2Proof.Machine
end

