-- ==== Sys2Proof/Machine/Memory.lean ====
section
/-!
DEFINITION. Memory as a list of address and byte pairs in one canonical form (spec/20_memory.md), little-endian (R70).
-/
namespace Sys2Proof.Machine

/-- Memory: addresses strictly rising, no entry equal to what an unlisted address reads as. -/
abbrev Memory := List Host.Cell

/-- What a byte that nothing has written reads as. DESIGN CHOICE, unsafe (log entry 3). -/
def Memory.unlisted : Byte := 0

/-- The byte at an address. -/
def Memory.get : Memory → Nat → Byte
  | [], _ => Memory.unlisted
  | c :: m, a => if c.1 = a then c.2 else Memory.get m a

/-- Write one byte and keep the canonical form. -/
def Memory.put : Memory → Nat → Byte → Memory
  | [], a, b => if b = Memory.unlisted then [] else [(a, b)]
  | c :: m, a, b =>
    if a < c.1 then (if b = Memory.unlisted then c :: m else (a, b) :: c :: m)
    else if a = c.1 then (if b = Memory.unlisted then m else (a, b) :: m)
    else c :: Memory.put m a b

/-- Write bytes at rising addresses. -/
def Memory.write : Memory → Nat → List Byte → Memory
  | m, _, [] => m
  | m, a, b :: bs => Memory.write (Memory.put m a b) (a + 1) bs

/-- Every address is at least `lo`, below 2^32 and below the next one, and no byte is the unlisted one. -/
def Memory.wfFrom (lo : Nat) : Memory → Bool
  | [] => true
  | c :: m => decide (lo ≤ c.1) && decide (c.1 < 2 ^ 32) && c.2 != Memory.unlisted && Memory.wfFrom (c.1 + 1) m

/-- The canonical form. -/
def Memory.wf (m : Memory) : Bool := Memory.wfFrom 0 m

/-- The low `n` bytes of a value, the least significant first (R70). -/
def lowBytes (v : BitVec 128) : Nat → List Byte
  | 0 => []
  | n + 1 => v.extractLsb' 0 8 :: lowBytes (v >>> 8) n

/-- The value of bytes, the first the least significant (R70). -/
def ofBytes : List Byte → BitVec 128
  | [] => 0
  | b :: bs => b.zeroExtend 128 ||| (ofBytes bs <<< 8)

/-- Insert into a rising list without repeats. -/
def insertRising (a : Nat) : List Nat → List Nat
  | [] => [a]
  | b :: l => if a < b then a :: b :: l else if a = b then b :: l else b :: insertRising a l

/-- A byte address belongs to `MEM_POPULATED` (R76). -/
def populated (holes : List (Nat × Nat)) (a : Nat) : Bool :=
  holes.all fun h => !(decide (h.1 ≤ a) && decide (a ≤ h.2))

end Sys2Proof.Machine
end

