-- ==== Sys2Proof/Machine/Flags.lean ====
section
/-!
DEFINITION. Carries, condition codes (spec/41_integer.md R202, R181 to R185), and the 32-bit images of the control
registers (spec/10_state.md R41 to R47).
-/
namespace Sys2Proof.Machine

/-! ## Carries (R202) -/

/-- Bit 31 carry of `a + b + c`. -/
def carry31 (a b : Word) (c : Bool) : Bool :=
  decide (2 ^ 32 ≤ a.toNat + b.toNat + c.toNat)

/-- Bit 30 carry of `a + b + c`, into bit 31. -/
def carry30 (a b : Word) (c : Bool) : Bool :=
  decide (2 ^ 31 ≤ (a.setWidth 31).toNat + (b.setWidth 31).toNat + c.toNat)

/-- The flags an addition or subtraction leaves. -/
structure SumFlags where
  of : Bool
  cc : Bool
  deriving DecidableEq, Repr

/-- adds: OF is signed overflow, CC the sign of the true sum, r[31] XOR OF (R181, D8). -/
def addsFlags (a b : Word) : SumFlags :=
  let of := carry31 a b false != carry30 a b false
  ⟨of, (a + b).msb != of⟩

/-- addu (R182). -/
def adduFlags (a b : Word) : SumFlags := ⟨carry31 a b false, carry31 a b false⟩

/-- subs: carries of `a + ~b + 1`, CC the sign of the true difference (R183, R202). -/
def subsFlags (a b : Word) : SumFlags :=
  let of := carry31 a (~~~b) true != carry30 a (~~~b) true
  ⟨of, (a - b).msb != of⟩

/-- subu (R184, R202). -/
def subuFlags (a b : Word) : SumFlags := ⟨!carry31 a (~~~b) true, carry31 a (~~~b) true⟩

/-- CC of a logical instruction (R185). -/
def zeroFlag (v : Word) : Bool := decide (v = 0)

/-- LCC-temp of bla: the true sum is not negative (R216). -/
def lccFlag (a b : Word) : Bool := !(addsFlags a b).cc

/-! ## psr (R41) -/

/-- The 32-bit image of psr. -/
def Psr.toWord (p : Psr) : Word :=
  p.pm ++ p.ps ++ p.sc ++ BitVec.ofBool p.rsvd ++ BitVec.ofBool p.knf ++ BitVec.ofBool p.dim ++ BitVec.ofBool p.ds
    ++ BitVec.ofBool p.ft ++ BitVec.ofBool p.dat ++ BitVec.ofBool p.iat ++ BitVec.ofBool p.inn ++ BitVec.ofBool p.it
    ++ BitVec.ofBool p.pu ++ BitVec.ofBool p.u ++ BitVec.ofBool p.pim ++ BitVec.ofBool p.im ++ BitVec.ofBool p.lcc
    ++ BitVec.ofBool p.cc ++ BitVec.ofBool p.bw ++ BitVec.ofBool p.br

/-- The fields of psr that st.c writes in user mode (R243). -/
def Psr.writeUser (p : Psr) (v : Word) : Psr :=
  { p with
    cc := v.getLsbD 2
    lcc := v.getLsbD 3
    sc := v.extractLsb' 17 5
    ps := v.extractLsb' 22 2
    pm := v.extractLsb' 24 8 }

/-- The fields of psr that st.c writes in supervisor mode: all but bit 16 (R243). -/
def Psr.writeSupervisor (p : Psr) (v : Word) : Psr :=
  { p.writeUser v with
    br := v.getLsbD 0
    bw := v.getLsbD 1
    im := v.getLsbD 4
    pim := v.getLsbD 5
    u := v.getLsbD 6
    pu := v.getLsbD 7
    it := v.getLsbD 8
    inn := v.getLsbD 9
    iat := v.getLsbD 10
    dat := v.getLsbD 11
    ft := v.getLsbD 12
    ds := v.getLsbD 13
    dim := v.getLsbD 14
    knf := v.getLsbD 15 }

/-- Any trap bit is set (R42, R215). -/
def Psr.anyTrap (p : Psr) : Bool := p.it || p.inn || p.iat || p.dat || p.ft

/-! ## epsr (R43) -/

/-- The 32-bit image of epsr. -/
def Epsr.toWord (e : Epsr) : Word :=
  e.rsvdHi ++ BitVec.ofBool e.of ++ BitVec.ofBool e.be ++ BitVec.ofBool e.pbm ++ e.dcs ++ BitVec.ofBool e.int
    ++ e.rsvdLo ++ BitVec.ofBool e.wp ++ BitVec.ofBool e.il ++ e.stepping ++ e.ptype

/-- st.c to epsr in supervisor mode: OF, WP, PBM and IL (R243); BE = 1 does not come here. -/
def Epsr.write (e : Epsr) (v : Word) : Epsr :=
  { e with
    il := v.getLsbD 13
    wp := v.getLsbD 14
    pbm := v.getLsbD 22
    of := v.getLsbD 24 }

/-! ## dirbase (R44) -/

/-- The 32-bit image of dirbase. -/
def Dirbase.toWord (d : Dirbase) : Word :=
  d.dtb ++ d.rc ++ d.rb ++ BitVec.ofBool d.cs8 ++ BitVec.ofBool d.rsvd ++ BitVec.ofBool d.iti ++ BitVec.ofBool d.bl
    ++ d.dps ++ BitVec.ofBool d.ate

/-- dirbase from its image (R243). -/
def Dirbase.ofWord (v : Word) : Dirbase where
  ate := v.getLsbD 0
  dps := v.extractLsb' 1 3
  bl := v.getLsbD 4
  iti := v.getLsbD 5
  rsvd := v.getLsbD 6
  cs8 := v.getLsbD 7
  rb := v.extractLsb' 8 2
  rc := v.extractLsb' 10 2
  dtb := v.extractLsb' 12 20

/-! ## fsr (R47) -/

/-- FZ. -/
def fsrFz (v : Word) : Bool := v.getLsbD 0
/-- TI. -/
def fsrTi (v : Word) : Bool := v.getLsbD 1
/-- RM. -/
def fsrRm (v : Word) : BitVec 2 := v.extractLsb' 2 2
/-- FTE. -/
def fsrFte (v : Word) : Bool := v.getLsbD 5

/-- The fsr bits that read as stored: FZ, TI, RM, FTE (R408, U9). -/
def fsrKept : Word := 0x2F#32

/-- The epsr bits that read as stored: IL, WP, PBM, BE, OF; type, stepping, INT, DCS and the reserved bits read as any
value (R241, U9). -/
def epsrKept : Word := 0x01C06000#32

end Sys2Proof.Machine
end

