-- ==== Sys2Proof/Machine/FpArith.lean ====
section
/-!
DEFINITION. The configuration functions of the floating-point unit (spec/44_fp_scalar.md R261), in the IEEE 754 form
that GK22 suggests. PRESUMED, unsafe (log entry 7). On zeros and normal numbers a result is rounded by fsr.RM. Where
the operands are denormal, infinite or NaN, and where a result overflows or underflows, the value is an opaque
constant of Config (log entry 8).
-/
namespace Sys2Proof.Machine

/-- The answer of a configuration function (R261): the value, `se`, and the set `re`. -/
structure FpOut where
  value : DWord
  se : Bool
  overflow : Bool
  underflow : Bool
  inexact : Bool
  deriving DecidableEq, Repr

/-- The part of fsr the arithmetic depends on (R261). -/
structure FpEnv where
  rm : BitVec 2
  fz : Bool
  deriving DecidableEq, Repr

/-- What an operand pattern denotes: a zero, `± m * 2^e`, or something the configuration leaves open. -/
inductive FpClass where
  | zero (neg : Bool)
  | finite (neg : Bool) (m : Nat) (e : Int)
  | special
  deriving DecidableEq, Repr

/-- Fraction bits of a format (R260). -/
def Prec.fracBits : Prec → Nat
  | .s => 23
  | .d => 52

/-- Exponent bits of a format (R260). -/
def Prec.expBits : Prec → Nat
  | .s => 8
  | .d => 11

/-- Exponent bias of a format (R260). -/
def Prec.bias : Prec → Nat
  | .s => 127
  | .d => 1023

/-- Bits of a format. -/
def Prec.bits : Prec → Nat
  | .s => 32
  | .d => 64

/-- A value cut to the width of a precision. -/
def Prec.cut (p : Prec) (v : DWord) : DWord :=
  match p with
  | .s => (v.setWidth 32).setWidth 64
  | .d => v

/-- Read a pattern (R260). -/
def fpClass (p : Prec) (v : DWord) : FpClass :=
  let n := v.toNat % 2 ^ p.bits
  let neg := decide (2 ^ (p.bits - 1) ≤ n)
  let ex := n / 2 ^ p.fracBits % 2 ^ p.expBits
  let fr := n % 2 ^ p.fracBits
  if ex = 0 then (if fr = 0 then .zero neg else .special)
  else if ex = 2 ^ p.expBits - 1 then .special
  else .finite neg (2 ^ p.fracBits + fr) ((ex : Int) - p.bias - p.fracBits)

/-- The zero of a sign. -/
def fpZero (p : Prec) (neg : Bool) : DWord :=
  if neg then BitVec.ofNat 64 (2 ^ (p.bits - 1)) else 0

/-- An exact answer. -/
def FpOut.exact (v : DWord) : FpOut := ⟨v, false, false, false, false⟩

/-- The answer for operands outside the zeros and normal numbers: a source exception and an open value. -/
def FpOut.source (q : Config.FpQuery) (p : Prec) : FpOut := ⟨p.cut (Config.fpValue q), true, false, false, false⟩

/-- `m / 2^d` rounded to an integer by a rounding mode (GK11: 00 nearest even, 01 down, 10 up, 11 toward zero), and
whether it is inexact. -/
def roundShift (rm : BitVec 2) (neg : Bool) (m d : Nat) : Nat × Bool :=
  let q := m / 2 ^ d
  let rem := m % 2 ^ d
  let up :=
    match rm with
    | 0#2 => decide (2 ^ d < 2 * rem) || (decide (2 * rem = 2 ^ d) && decide (q % 2 = 1))
    | 1#2 => neg && decide (rem ≠ 0)
    | 2#2 => !neg && decide (rem ≠ 0)
    | _ => false
  (if up then q + 1 else q, decide (rem ≠ 0))

/-- Pack a normal number with significand `q` in `[2^frac, 2^(frac+1))`, last bit at `2^e`; out of the exponent range
the value is open and overflow or underflow is reported. DESIGN CHOICE (log entry 41): underflow is decided by the
exponent after rounding. -/
def fpPack (query : Config.FpQuery) (p : Prec) (neg : Bool) (q : Nat) (e : Int) (inexact : Bool) : FpOut :=
  let be := e + p.fracBits + p.bias
  if be < 1 then ⟨p.cut (Config.fpValue query), false, false, true, inexact⟩
  else if (2 ^ p.expBits - 1 : Int) ≤ be then ⟨p.cut (Config.fpValue query), false, true, false, inexact⟩
  else
    ⟨BitVec.ofNat 64 ((if neg then 2 ^ (p.bits - 1) else 0) + be.toNat * 2 ^ p.fracBits + (q - 2 ^ p.fracBits)),
      false, false, false, inexact⟩

/-- Round `± m * 2^e`, `m` not 0, to a format; rounding comes first, then the test for underflow (DESIGN CHOICE,
log entry 41). -/
def fpRound (query : Config.FpQuery) (p : Prec) (rm : BitVec 2) (neg : Bool) (m : Nat) (e : Int) : FpOut :=
  let len := Nat.log2 m
  if len ≤ p.fracBits then fpPack query p neg (m * 2 ^ (p.fracBits - len)) (e - (p.fracBits - len : Nat)) false
  else
    let d := len - p.fracBits
    let r := roundShift rm neg m d
    if r.1 = 2 ^ (p.fracBits + 1) then fpPack query p neg (2 ^ p.fracBits) (e + d + 1) r.2
    else fpPack query p neg r.1 (e + d) r.2

/-- The question an operation asks where no rule states its answer. -/
def fpQuery (op : Nat) (sp rp : Prec) (env : FpEnv) (a b : DWord) : Config.FpQuery :=
  ⟨op, decide (sp = .d), decide (rp = .d), env.rm, env.fz, a, b⟩

/-- The sign of a sum that is exactly zero: minus only when rounding down, or when both operands are minus zero. -/
def zeroSumNeg (rm : BitVec 2) (na nb : Bool) : Bool := if na = nb then na else decide (rm = 1#2)

/-- A sum of two classes (the sign of the second already turned for a difference). -/
def fpAddClasses (query : Config.FpQuery) (rp : Prec) (rm : BitVec 2) : FpClass → FpClass → FpOut
  | .special, _ => .source query rp
  | _, .special => .source query rp
  | .zero na, .zero nb => .exact (fpZero rp (zeroSumNeg rm na nb))
  | .zero _, .finite nb m e => fpRound query rp rm nb m e
  | .finite na m e, .zero _ => fpRound query rp rm na m e
  | .finite na ma ea, .finite nb mb eb =>
    let e := min ea eb
    let x : Int := (ma * 2 ^ (ea - e).toNat : Nat)
    let y : Int := (mb * 2 ^ (eb - e).toNat : Nat)
    let sum := (if na then -x else x) + (if nb then -y else y)
    if sum = 0 then .exact (fpZero rp (zeroSumNeg rm na nb))
    else fpRound query rp rm (decide (sum < 0)) sum.natAbs e

/-- Turn the sign of a class. -/
def FpClass.neg : FpClass → FpClass
  | .zero n => .zero (!n)
  | .finite n m e => .finite (!n) m e
  | .special => .special

/-- `fp_add` (R261, R264). -/
def fpAdd (sp rp : Prec) (env : FpEnv) (a b : DWord) : FpOut :=
  fpAddClasses (fpQuery 0 sp rp env a b) rp env.rm (fpClass sp a) (fpClass sp b)

/-- `fp_sub` (R261, R265). -/
def fpSub (sp rp : Prec) (env : FpEnv) (a b : DWord) : FpOut :=
  fpAddClasses (fpQuery 1 sp rp env a b) rp env.rm (fpClass sp a) (fpClass sp b).neg

/-- `fp_mul` (R261, R267). -/
def fpMul (sp rp : Prec) (env : FpEnv) (a b : DWord) : FpOut :=
  let query := fpQuery 2 sp rp env a b
  match fpClass sp a, fpClass sp b with
  | .special, _ => .source query rp
  | _, .special => .source query rp
  | .zero na, .zero nb => .exact (fpZero rp (na != nb))
  | .zero na, .finite nb _ _ => .exact (fpZero rp (na != nb))
  | .finite na _ _, .zero nb => .exact (fpZero rp (na != nb))
  | .finite na ma ea, .finite nb mb eb => fpRound query rp env.rm (na != nb) (ma * mb) (ea + eb)

/-- `fp_cvt` (R261, R272): a same-precision move copies the pattern of a zero or a normal number. DESIGN CHOICE (log
entry 8): of an exceptional operand, which reports a source exception, the value is open, at equal precisions and with
FTE = 0 too (U15). -/
def fpCvt (sp rp : Prec) (env : FpEnv) (a : DWord) : FpOut :=
  let query := fpQuery 5 sp rp env a 0
  match fpClass sp a with
  | .special => .source query rp
  | .zero neg => .exact (fpZero rp neg)
  | .finite neg m e => if sp = rp then .exact (sp.cut a) else fpRound query rp env.rm neg m e

/-- A 32-bit integer from `± m * 2^e` (R270, R271); out of range the value is open and the result exception is
reported as an overflow. -/
def fpToInt (query : Config.FpQuery) (rm : BitVec 2) : FpClass → FpOut
  | .special => .source query .s
  | .zero _ => .exact 0
  | .finite neg m e =>
    let r := if 0 ≤ e then (m * 2 ^ e.toNat, false) else roundShift rm neg m (-e).toNat
    let n : Int := if neg then -(r.1 : Int) else r.1
    if -2 ^ 31 ≤ n ∧ n < 2 ^ 31 then ⟨(BitVec.ofInt 32 n).setWidth 64, false, false, false, r.2⟩
    else ⟨Prec.s.cut (Config.fpValue query), false, true, false, r.2⟩

/-- `fp_fix` (R261, R270): rounded by fsr.RM. -/
def fpFix (sp : Prec) (env : FpEnv) (a : DWord) : FpOut :=
  fpToInt (fpQuery 6 sp .s env a 0) env.rm (fpClass sp a)

/-- `fp_trunc` (R261, R271): toward zero whatever fsr.RM. -/
def fpTrunc (sp : Prec) (env : FpEnv) (a : DWord) : FpOut :=
  fpToInt (fpQuery 7 sp .s env a 0) 3#2 (fpClass sp a)

/-! ## Compares (R261, R298 to R300) -/

/-- The answer of a compare: the relation, and `se`. -/
structure FpCond where
  cc : Bool
  se : Bool
  deriving DecidableEq, Repr

/-- Two operands as integers over one power of two, where both are zeros or normal numbers. -/
def fpAligned (p : Prec) (a b : DWord) : Option (Int × Int) :=
  let signed (neg : Bool) (n : Nat) : Int := if neg then -(n : Int) else n
  match fpClass p a, fpClass p b with
  | .special, _ => none
  | _, .special => none
  | .zero _, .zero _ => some (0, 0)
  | .zero _, .finite nb mb _ => some (0, signed nb mb)
  | .finite na ma _, .zero _ => some (signed na ma, 0)
  | .finite na ma ea, .finite nb mb eb =>
    some (signed na (ma * 2 ^ (ea - min ea eb).toNat), signed nb (mb * 2 ^ (eb - min ea eb).toNat))

/-- A NaN pattern (GK22). -/
def fpIsNaN (p : Prec) (v : DWord) : Bool :=
  let n := v.toNat % 2 ^ p.bits
  decide (n / 2 ^ p.fracBits % 2 ^ p.expBits = 2 ^ p.expBits - 1) && decide (n % 2 ^ p.fracBits ≠ 0)

/-- How two operands compare: none where one is a NaN; an infinity or a denormal compares by one open order, which the
three compares share (R299, log entry 32). -/
def fpCompare (sp : Prec) (env : FpEnv) (a b : DWord) : Option Ordering :=
  match fpAligned sp a b with
  | some (x, y) => some (compare x y)
  | none => if fpIsNaN sp a || fpIsNaN sp b then none else some (Config.fpOrder (fpQuery 8 sp sp env a b))

/-- An operand is no zero and no normal number, so a compare reports a source exception. -/
def compareSource (sp : Prec) (a b : DWord) : Bool := (fpAligned sp a b).isNone

/-- `fp_gt` (R298). -/
def fpGt (sp : Prec) (env : FpEnv) (a b : DWord) : FpCond :=
  match fpCompare sp env a b with
  | some o => ⟨decide (o = .gt), compareSource sp a b⟩
  | none => ⟨Config.fpCond (fpQuery 8 sp sp env a b), true⟩

/-- `fp_le` (R299): for ordered operands it holds exactly where `fp_gt` does not. -/
def fpLe (sp : Prec) (env : FpEnv) (a b : DWord) : FpCond :=
  match fpCompare sp env a b with
  | some o => ⟨!decide (o = .gt), compareSource sp a b⟩
  | none => ⟨Config.fpCond (fpQuery 9 sp sp env a b), true⟩

/-- `fp_eq` (R300): +0 = -0, and a NaN equals nothing. -/
def fpEq (sp : Prec) (env : FpEnv) (a b : DWord) : FpCond :=
  match fpCompare sp env a b with
  | some o => ⟨decide (o = .eq), compareSource sp a b⟩
  | none => ⟨false, true⟩

/-! ## Reciprocal and reciprocal square root (R268, R269): any value within the bound -/

/-- The largest 9-bit significand `k` in `[2^8, 2^9)` that a test admits, found bit by bit; the test is downward
closed and admits 2^8. -/
def largestSeed (ok : Nat → Bool) : Nat → Nat → Nat
  | 0, k => k
  | n + 1, k => largestSeed ok n (if ok (k + 2 ^ n) then k + 2 ^ n else k)

/-- `2^x * n` as an integer, for a scale `x` that may be negative, over the common factor `2^scale`. -/
def scaled (n : Nat) (x : Int) (scale : Nat) : Int := (n * 2 ^ (x + scale).toNat : Nat)

/-- Floor of the base-two logarithm of `1 / (m * 2^e)`. -/
def recipExp (m : Nat) (e : Int) : Int :=
  if m = 2 ^ Nat.log2 m then -e - Nat.log2 m else -e - Nat.log2 m - 1

/-- `|v - 1/b| < 2^(x-7)` for `v = mv * 2^ev`, `b = mb * 2^eb`, `x` the exponent of `1/b` (R268). -/
def rcpClose (mv : Nat) (ev : Int) (mb : Nat) (eb : Int) : Bool :=
  let x := recipExp mb eb
  let k := ((ev + eb).natAbs + (x - 7 + eb).natAbs)
  decide ((scaled (mv * mb) (ev + eb) k - scaled 1 0 k).natAbs < (scaled mb (x - 7 + eb) k).natAbs)

/-- `|v - 1/sqrt b| < 2^(x-7)`, `x` the exponent of `1/sqrt b` (R269): the square of `v ∓ 2^(x-7)` times `b` lies on
either side of 1. -/
def rsqrClose (mv : Nat) (ev : Int) (mb : Nat) (eb : Int) : Bool :=
  let x := recipExp mb eb / 2
  let w := min ev (x - 7)
  let v := mv * 2 ^ (ev - w).toNat
  let g := 2 ^ (x - 7 - w).toNat
  let k := (2 * w + eb).natAbs
  decide (g ≤ v) && decide (scaled ((v - g) * (v - g) * mb) (2 * w + eb) k < scaled 1 0 k)
    && decide (scaled 1 0 k < scaled ((v + g) * (v + g) * mb) (2 * w + eb) k)

/-- The sign and magnitude `m * 2^e` of a zero, normal or denormal pattern (GK22), none of an infinity or a NaN: the
values a result may have. -/
def fpMagnitude (p : Prec) (v : DWord) : Option (Bool × Nat × Int) :=
  let n := v.toNat % 2 ^ p.bits
  let ex := n / 2 ^ p.fracBits % 2 ^ p.expBits
  let fr := n % 2 ^ p.fracBits
  if ex = 2 ^ p.expBits - 1 then none
  else
    some (decide (2 ^ (p.bits - 1) ≤ n), if ex = 0 then fr else 2 ^ p.fracBits + fr,
      (max ex 1 : Nat) - p.bias - p.fracBits)

/-- A result so small that only a denormal pattern stands for it. -/
def fpIsDenormal (p : Prec) (v : DWord) : Bool :=
  decide (v.toNat % 2 ^ p.bits / 2 ^ p.fracBits % 2 ^ p.expBits = 0)

/-- The pattern of `± k * 2^e` for a seed `k` in `[2^8, 2^9)`: normal, or denormal below the normal range. -/
def fpSeedPattern (p : Prec) (neg : Bool) (k : Nat) (e : Int) : DWord :=
  let be := e + 8 + p.bias
  BitVec.ofNat 64 ((if neg then 2 ^ (p.bits - 1) else 0) +
    if 1 ≤ be then be.toNat * 2 ^ p.fracBits + (k - 2 ^ 8) * 2 ^ (p.fracBits - 8)
    else k * 2 ^ (e + p.bias + p.fracBits - 1).toNat)

/-- A result with a bound: the free value where it has the right sign and is within the bound, denormal patterns
included, and a member of the set otherwise. FZ is ignored, and whether inexact or underflow is reported is open
(DESIGN CHOICE, log entry 9). -/
def fpSeed (query : Config.FpQuery) (rp : Prec) (neg : Bool) (x : Int) (close below : Nat → Int → Bool)
    (candidate : DWord) : FpOut :=
  let fallback := fpSeedPattern rp neg (largestSeed (fun k => below k (x - 8)) 8 256) (x - 8)
  let v := match fpMagnitude rp candidate with
    | some (nc, mc, ec) => if nc = neg && close mc ec then rp.cut candidate else fallback
    | none => fallback
  ⟨v, false, false, fpIsDenormal rp v && Config.fpUnderflow query, Config.fpInexact query⟩

/-- The answer for a division by zero or the root of a negative number: reported as a source or a result exception,
which one is open (R268, R269). -/
def fpNoSeed (query : Config.FpQuery) (rp : Prec) : FpOut :=
  ⟨rp.cut (Config.fpValue query), Config.fpSource query, !Config.fpSource query, false, false⟩

/-- A member of `fp_rcp` (R261, R268), picked by a free value. -/
def fpRcp (sp rp : Prec) (env : FpEnv) (b candidate : DWord) : FpOut :=
  let query := fpQuery 3 sp rp env b candidate
  match fpClass sp b with
  | .special => .source query rp
  | .zero _ => fpNoSeed query rp
  | .finite neg m e =>
    fpSeed query rp neg (recipExp m e) (fun mv ev => rcpClose mv ev m e)
      (fun k ek => decide (scaled (k * m) (ek + e) (ek + e).natAbs ≤ scaled 1 0 (ek + e).natAbs)) candidate

/-- A member of `fp_rsqr` (R261, R269), picked by a free value. -/
def fpRsqr (sp rp : Prec) (env : FpEnv) (b candidate : DWord) : FpOut :=
  let query := fpQuery 4 sp rp env b candidate
  match fpClass sp b with
  | .special => .source query rp
  | .zero _ => fpNoSeed query rp
  | .finite true _ _ => fpNoSeed query rp
  | .finite false m e =>
    fpSeed query rp false (recipExp m e / 2) (fun mv ev => rsqrClose mv ev m e)
      (fun k ek => decide (scaled (k * k * m) (2 * ek + e) (2 * ek + e).natAbs ≤ scaled 1 0 (2 * ek + e).natAbs))
      candidate

end Sys2Proof.Machine
end

