-- ==== Sys2Proof/Machine/Operands.lean ====
section
/-!
DEFINITION. Reading and writing registers (spec/00_scope.md R7), and every operand form (R11).
-/
namespace Sys2Proof.Machine

/-! ## Integer registers (R7, R21) -/

/-- `R(i)`: r0 reads as zero. -/
def State.R (s : State) (i : Reg) : Word := if i = 0 then 0 else s.r[i.toNat]

/-- `r[i] <- v`: a write to r0 is discarded. -/
def State.setR (s : State) (i : Reg) (v : Word) : State :=
  if i = 0 then s else { s with r := s.r.set i.toNat v }

/-! ## Floating-point registers (R7, R31, R32) -/

/-- f0 or f1: reads as zero, discards writes (R31). -/
def isFZero (i : Reg) : Bool := decide (i = 0) || decide (i = 1)

/-- `FS(i)`. -/
def State.FS (s : State) (i : Reg) : Word := if isFZero i then 0 else s.f[i.toNat]

/-- `FD(i)`, the pair with `f(i+1)` in the high half. -/
def State.FD (s : State) (i : Reg) : DWord := s.FS (i + 1) ++ s.FS i

/-- `FQ(i)`, four registers. -/
def State.FQ (s : State) (i : Reg) : BitVec 128 := s.FD (i + 2) ++ s.FD i

/-- `FSw(i, v)`. -/
def State.setFS (s : State) (i : Reg) (v : Word) : State :=
  if isFZero i then s else { s with f := s.f.set i.toNat v }

/-- `FDw(i, v)`. -/
def State.setFD (s : State) (i : Reg) (v : DWord) : State :=
  (s.setFS i (v.extractLsb' 0 32)).setFS (i + 1) (v.extractLsb' 32 32)

/-- `FQw(i, v)`. -/
def State.setFQ (s : State) (i : Reg) (v : BitVec 128) : State :=
  (s.setFD i (v.extractLsb' 0 64)).setFD (i + 2) (v.extractLsb' 64 64)

/-- `Fread(i, prec)`. -/
def State.fread (s : State) (i : Reg) (p : Prec) : DWord :=
  match p with
  | .s => (s.FS i).setWidth 64
  | .d => s.FD i

/-- `Fwrite(i, prec, v)`. -/
def State.fwrite (s : State) (i : Reg) (p : Prec) (v : DWord) : State :=
  match p with
  | .s => s.setFS i (v.setWidth 32)
  | .d => s.setFD i v

/-! ## Register numbers of wide operands (R33) and overlap (R303) -/

/-- An even register number. -/
def isPair (i : Reg) : Bool := !i.getLsbD 0

/-- A register number that is a multiple of 4. -/
def isQuad (i : Reg) : Bool := !i.getLsbD 0 && !i.getLsbD 1

/-- The register number fits an operand of the precision (R33). -/
def Prec.fits (p : Prec) (i : Reg) : Bool :=
  match p with
  | .s => true
  | .d => isPair i

/-- The registers of an operand. -/
def Prec.regs (p : Prec) (i : Reg) : List Reg :=
  match p with
  | .s => [i]
  | .d => [i, i + 1]

/-- The register sets of two operands overlap (R303, D49). -/
def regsOverlap (p : Prec) (i : Reg) (q : Prec) (j : Reg) : Bool :=
  (p.regs i).any fun x => (q.regs j).contains x

/-! ## Immediates and offsets (R11, R103, R180) -/

/-- Sign-extended 16-bit immediate: additions, subtractions, addresses. -/
def immSigned (imm : BitVec 16) : Word := imm.signExtend 32

/-- Zero-extended 16-bit immediate: logical instructions. -/
def immZero (imm : BitVec 16) : Word := imm.zeroExtend 32

/-- Immediate shifted left 16 bits: the high logical instructions. -/
def immHigh (imm : BitVec 16) : Word := imm ++ 0#16

/-- Offset with its forced-zero low bits (R112, R114), sign-extended. -/
def offset15 (off : BitVec 15) : Word := (off ++ 0#1).signExtend 32

/-- The same for an offset that is a multiple of 4. -/
def offset14 (off : BitVec 14) : Word := (off ++ 0#2).signExtend 32

/-- The same for an offset that is a multiple of 8. -/
def offset13 (off : BitVec 13) : Word := (off ++ 0#3).signExtend 32

/-- Shift count: the low five bits of the first operand (R192). -/
def shiftCount (a : Word) : BitVec 5 := a.setWidth 5

/-- A branch displacement, `sext_32(off << 2)` (R10). -/
def branchDisp26 (off : BitVec 26) : Word := (off ++ 0#2).signExtend 32

/-- The same for a 16-bit offset. -/
def branchDisp16 (off : BitVec 16) : Word := (off ++ 0#2).signExtend 32

/-- The address of the instruction itself: in dual mode a core instruction stands at pc + 4 (R381, R385). -/
def State.instAddr (s : State) : Word :=
  match s.mode with
  | .single => s.pc
  | .dual => s.pc + 4

/-- Bytes from one step to the next: 4, or 8 for a pair (R25). -/
def Mode.width : Mode → Word
  | .single => 4
  | .dual => 8

/-- The address after the delay slot of a transfer at this step (R216): pc + 8, or p + 16. -/
def State.afterSlot (s : State) : Word := s.pc + s.mode.width + s.mode.width

/-- The floating-point environment (R261). -/
def State.fpEnv (s : State) : FpEnv := ⟨fsrRm s.fsr, fsrFz s.fsr⟩

/-- A free value of a precision, and one draw counted (log entry 4). -/
def State.drawn (s : State) : DWord := (Config.freeBits s.free).setWidth 64

/-- One more free value has been drawn. -/
def State.tick (s : State) : State := { s with free := s.free + 1 }

/-- A stored register of which only the bits of a mask read as stored: every other bit is free (U9). -/
def State.readKept (s : State) (mask v : Word) : Word :=
  (v &&& mask) ||| ((Config.freeBits s.free).setWidth 32 &&& ~~~mask)

/-- The value of a control register as `ld.c` reads it (R241): the bits of fsr and epsr that no rule writes are free
(U9); fir is the latched address or the instruction's own (R421). -/
def State.readC (s : State) : CReg → Word
  | .fir => s.firLatched.getD s.instAddr
  | .psr => s.psr.toWord
  | .dirbase => s.dirbase.toWord
  | .db => s.db
  | .fsr => s.readKept fsrKept s.fsr
  | .epsr => s.readKept epsrKept s.epsr.toWord

end Sys2Proof.Machine
end

