-- ==== Sys2Proof/Machine/Ops.lean ====
section
/-!
DEFINITION. The named operations that the instruction meanings share: what an instruction does to the machine
(`Eff`), data accesses, pipelines, floating-point exceptions, taking a trap and returning from one, and the end of a
step in single- and dual-instruction mode.
-/
namespace Sys2Proof.Machine

/-! ## Effects of one instruction -/

/-- The trap kinds (R400). -/
inductive Cause where
  | it | inn | iat | dat | ft
  deriving DecidableEq, Repr

/-- Where control goes after an instruction (R210). -/
inductive Ctl where
  /-- the next sequential instruction -/
  | seq
  /-- a non-delayed transfer -/
  | jump (target : Word)
  /-- a delayed transfer, and the mode a trap return selects at the target -/
  | delayed (target : Word) (sel : Option ModeSel)
  /-- bc.t or bnc.t not taken: skip the next sequential instruction -/
  | skip
  deriving DecidableEq, Repr

/-- What an instruction does: a state in which everything but pc, pending transfer and mode is updated, a trap, or a
refusal. The state of a trap holds what the machine keeps: no write of the instruction. -/
inductive Eff where
  | ok (s : State) (c : Ctl)
  | trap (c : Cause) (s : State)
  | refuse (r : Refusal)
  deriving DecidableEq, Repr

/-- Go on if a condition of the instruction holds, and refuse by name otherwise. -/
def demand (b : Bool) (r : Refusal) (k : Eff) : Eff := if b then k else .refuse r

/-! ## Floating-point exceptions (R406, R407) -/

/-- A pending result exception is to be reported: with fsr.FTE = 0 none is ever raised (R406, D41), and it stays
pending. DESIGN CHOICE (log entry 31): it is reported once FTE is set again. -/
def State.reporting (s : State) : Bool := s.fpPending && fsrFte s.fsr

/-- The start of every floating-point-format instruction, fst and pst.d: a pending result exception is reported. -/
def reportResult (s : State) (k : Eff) : Eff :=
  if s.reporting then .trap .ft { s with fpPending := false } else k

/-- The start of fld, pfld and ixfr: a pending result exception is reported or not, a free choice (U10). -/
def mayReportResult (s : State) (k : State → Eff) : Eff :=
  if s.reporting then
    if Config.freeBool s.free then .trap .ft { s.tick with fpPending := false } else k s.tick
  else k s

/-- A source exception traps before any write when fsr.FTE = 1 (R406). -/
def checkSource (se : Bool) (s : State) (k : Eff) : Eff :=
  if fsrFte s.fsr && se then .trap .ft s else k

/-- A result exception becomes pending when fsr.FTE = 1; inexact counts only when fsr.TI = 1 (R407). -/
def State.noteResult (s : State) (o : FpOut) : State :=
  if fsrFte s.fsr && (o.overflow || o.underflow || (o.inexact && fsrTi s.fsr)) then { s with fpPending := true } else s

/-! ## Data accesses (R72, R76, R150) -/

/-- The access is aligned and every byte is populated. -/
def State.dataOk (s : State) (ea : Word) (n : Nat) : Bool :=
  decide (ea.toNat % n = 0) && (List.range n).all fun k => populated s.holes (ea.toNat + k)

/-- Make an access or trap with DAT before any write (R150). -/
def checkData (s : State) (ea : Word) (n : Nat) (k : Eff) : Eff :=
  if s.dataOk ea n then k else .trap .dat s

/-- The first load or store after unlock unlocks the bus (R246). -/
def State.accessed (s : State) : State :=
  if s.dirbase.bl then s else { s with busLock := false }

/-- One byte as a load reads it: after flush, a free byte until it is stored to (R163, U1). `k` is its place in the
access. -/
def State.byteAt (s : State) (a k : Nat) : Byte :=
  if s.undef.contains a then (Config.freeBits s.free).extractLsb' (8 * k) 8 else Memory.get s.mem a

/-- `MemRead(ea, n)` (R70), the low `8 * n` bits. -/
def State.loadBits (s : State) (ea : Word) (n : Nat) : BitVec 128 :=
  ofBytes ((List.range n).map fun k => s.byteAt (ea.toNat + k) k)

/-- The state after a load: one draw is counted if a byte of it was free. -/
def State.loaded (s : State) (ea : Word) (n : Nat) : State :=
  if (List.range n).any fun k => s.undef.contains (ea.toNat + k) then s.accessed.tick else s.accessed

/-- The aligned words that `n` bytes at `a` touch. -/
def touchedWords (a n : Nat) : List Nat := (List.range ((n + 3) / 4)).map fun k => a / 4 * 4 + 4 * k

/-- `MemWrite(ea, n, v)` (R70), with the notes that flush and fetch need (R163, R80). -/
def State.storeBits (s : State) (ea : Word) (n : Nat) (v : BitVec 128) : State :=
  { s with
    mem := Memory.write s.mem ea.toNat (lowBytes v n)
    undef := s.undef.filter fun a => !(decide (ea.toNat ≤ a) && decide (a < ea.toNat + n))
    stored := (touchedWords ea.toNat n).foldr insertRising s.stored }

/-- Bytes of a width. -/
def Prec.bytes : Prec → Nat
  | .s => 4
  | .d => 8

/-- `n` bytes at `a` overlap the data of a load-pipeline entry. -/
def LoadEntry.overlaps (e : LoadEntry) (a n : Nat) : Bool :=
  match e with
  | .undef => false
  | .val b _ p => decide (a < b.toNat + p.bytes) && decide (b.toNat < a + n)

/-- A store overlaps data that a pfld has read and not delivered (R166, D33). -/
def State.pfldPending (s : State) (ea : Word) (n : Nat) : Bool :=
  s.lPipe.q1.overlaps ea.toNat n || s.lPipe.q2.overlaps ea.toNat n || s.lPipe.q3.overlaps ea.toNat n

/-- Autoincrement: the base register receives the effective address (R170). -/
def State.increment (s : State) (auto : Bool) (base : Reg) (ea : Word) : State :=
  if auto then s.setR base ea else s

/-! ## Pipelines (R290, R291) -/

/-- Deliver the entry that leaves a pipeline to `dest`, with the delivering instruction's precision `p`. An entry of
another precision is refused unless the destination is f0 or f1; an undefined entry is a free value (U6). -/
def deliver (s : State) (old : Entry) (dest : Reg) (p : Prec) : Except Refusal State :=
  if isFZero dest then .ok s
  else match old with
    | .val v q => if q = p then .ok (s.fwrite dest q v) else .error .pipePrecision
    | .undef => .ok (s.tick.fwrite dest p s.drawn)

/-- Advance a three-stage pipeline. -/
def Pipe3.push {α : Type} (q : Pipe3 α) (new : α) : Pipe3 α := ⟨new, q.q1, q.q2⟩

/-- Every entry undefined (R53). -/
def Pipe3.clear : Pipe3 Entry := ⟨.undef, .undef, .undef⟩

/-- Every entry undefined, the stages kept (R53). -/
def MPipe.clear : MPipe → MPipe
  | .three _ _ _ => .three .undef .undef .undef
  | .two _ _ => .two .undef .undef

/-- The last stage. -/
def MPipe.last : MPipe → Entry
  | .three _ _ q => q
  | .two _ q => q

/-- Advance one stage. -/
def MPipe.push : MPipe → Entry → MPipe
  | .three a b _, n => .three n a b
  | .two a _, n => .two n a

/-- The multiplier pipeline with `n` stages for the operation that starts: three or two. Entries in flight of another
count are refused; a pipeline of undefined entries becomes one of the right length (R301, D16). -/
def MPipe.ready (m : MPipe) (three : Bool) : Option MPipe :=
  match m, three with
  | .three a b c, true => some (.three a b c)
  | .two a b, false => some (.two a b)
  | .three .undef .undef .undef, false => some (.two .undef .undef)
  | .two .undef .undef, true => some (.three .undef .undef .undef)
  | _, _ => none

/-- Stages of a pipelined multiply: three for single-precision sources, two for double (R50). -/
def Prec.threeStage : Prec → Bool
  | .s => true
  | .d => false

/-! ## Taking a trap and returning from one (R405, R415) -/

/-- The contexts after a trap at `fir`: with a trap bit still set, those below are lost (R416, log entry 14). -/
def framesAfterTrap (trapBit inSlot : Bool) (fir : Word) (frames : List TrapFrame) : List TrapFrame :=
  .taken fir inSlot :: if trapBit then [.lost] else frames

/-- The notes of slot traps after a trap at `fir`: none is ever removed (R409, log entry 13). -/
def slotsAfterTrap (inSlot : Bool) (fir : Word) (old : List Word) : List Word :=
  if inSlot then old.insert fir else old

/-- A trap return to `t` would resume in a delay slot: the trap it ends was taken there, or it ends another trap than
the latest and a trap was ever taken there (R225, R409, log entry 13). -/
def resumesInSlot (slotFirs : List Word) (frames : List TrapFrame) (t : Word) : Bool :=
  match frames with
  | .taken fir inSlot :: _ => if fir = t then inSlot else slotFirs.contains t
  | _ => slotFirs.contains t

/-- The context that a trap return would need is lost (R416). -/
def contextLost (frames : List TrapFrame) : Bool := decide (frames.head? = some .lost)

/-- Trap entry (R405). -/
def State.enterTrap (s : State) (c : Cause) (fir : Word) (knf : Bool) : State :=
  { s with
    psr := { s.psr with
      pu := s.psr.u
      pim := s.psr.im
      u := false
      im := false
      dim := decide (s.mode = .dual)
      ds := s.armed
      it := s.psr.it || decide (c = .it)
      inn := s.psr.inn || decide (c = .inn)
      iat := s.psr.iat || decide (c = .iat)
      dat := s.psr.dat || decide (c = .dat)
      ft := s.psr.ft || decide (c = .ft)
      knf := knf }
    firLatched := some fir
    slotFirs := slotsAfterTrap (s.delay.isSome || s.skipCore) fir s.slotFirs
    frames := framesAfterTrap s.psr.anyTrap (s.delay.isSome || s.skipCore) fir s.frames
    mode := .single
    armed := false
    delay := none
    delayMode := none
    skipCore := false
    pc := Config.trapVector }

/-- Take a trap: refused inside a locked sequence (R403). -/
def State.takeTrap (s : State) (c : Cause) (fir : Word) (knf : Bool) : Host.Outcome State Fault Refusal :=
  if s.dirbase.bl then .refused .trapInLockedSequence else .next (s.enterTrap c fir knf)

/-- The mode that DS and DIM select (R215, R388). -/
def modeSelected (ds dim : Bool) : ModeSel :=
  match ds, dim with
  | true, false => ⟨.single, true⟩
  | true, true => ⟨.dual, true⟩
  | false, true => ⟨.dual, false⟩
  | false, false => ⟨.single, false⟩

/-- The psr update of a trap return (R215). -/
def Psr.afterReturn (p : Psr) : Psr :=
  { p with u := p.pu, im := p.pim, it := false, inn := false, iat := false, dat := false, ft := false }

/-- Return from a trap with bri to `t` (R215, R415), refused where the spec says so (R409, R416, R422). -/
def State.returnFromTrap (s : State) (t : Word) : Eff :=
  demand (!s.psr.knf) .returnWithKnf <|
  demand (!resumesInSlot s.slotFirs s.frames t) .returnIntoSlot <|
  demand (!contextLost s.frames) .outerContextLost <|
  .ok { s with psr := s.psr.afterReturn, frames := s.frames.tail }
    (.delayed t (some (modeSelected s.psr.ds s.psr.dim)))

/-! ## The end of a step (R210, R382) -/

/-- The mode after a step, from the D-bit the step has seen, or none for a sequence no source shows (R382). -/
def modeNext (mode : Mode) (armed : Bool) (d : Option Bool) : Option ModeSel :=
  match mode, armed, d with
  | .single, false, some true => some ⟨.single, true⟩
  | .single, false, _ => some ⟨.single, false⟩
  | .single, true, some false => none
  | .single, true, _ => some ⟨.dual, false⟩
  | .dual, false, some false => some ⟨.dual, true⟩
  | .dual, false, _ => some ⟨.dual, false⟩
  | .dual, true, some true => none
  | .dual, true, _ => some ⟨.single, false⟩

/-- Move on after a step: `s` is the state before it, `s'` the effects, `m` the next mode (R210, R215, R385). -/
def State.complete (s s' : State) (m : ModeSel) (c : Ctl) : State :=
  let w := s.mode.width
  match s.delay with
  | some t =>
    let m' := s.delayMode.getD m
    { s' with pc := t, delay := none, delayMode := none, skipCore := false, mode := m'.mode, armed := m'.armed }
  | none =>
    let next := { s' with delayMode := none, skipCore := false, mode := m.mode, armed := m.armed }
    match c with
    | .seq => { next with pc := s.pc + w }
    | .jump t => { next with pc := t }
    | .delayed t sel => { next with pc := s.pc + w, delay := some t, delayMode := sel }
    | .skip =>
      match s.mode with
      | .single => { next with pc := s.pc + w + w }
      | .dual =>
        if Config.dimSkipFpHalf then { next with pc := s.pc + w + w }
        else { next with pc := s.pc + w, skipCore := true }

/-- The end of a single-instruction step: `d` the D-bit if the instruction has one, `control` whether it is a control
transfer (R382, R386). -/
def retireSingle (d : Option Bool) (control : Bool) (s : State) (e : Eff) : Host.Outcome State Fault Refusal :=
  match modeNext s.mode s.armed d with
  | none => .refused .modeExcursion
  | some m =>
    if control && s.armed then .refused .controlInTransition
    else match e with
      | .ok s' c => .next (s.complete s' m c)
      | .trap c s' => s'.takeTrap c s.pc false
      | .refuse r => .refused r

/-! ## Pairs (R384, R387) -/

/-- Of two new values of one element, the one that a half has changed. -/
def pick {α : Type} [DecidableEq α] (old a b : α) : α := if a = old then b else a

/-- Of each register the value of the half that has changed it. Irreducible, so that no proof unfolds 32 registers. -/
@[irreducible] def mergeRegs (old fp core : Vector Word 32) : Vector Word 32 :=
  Vector.ofFn fun i => pick old[i] fp[i] core[i]

/-- The writes of both halves together: the core half's state, with what the floating-point half changed. The halves
write no common element (R384). -/
def State.overlay (old fp core : State) : State :=
  { core with
    r := mergeRegs old.r fp.r core.r
    f := mergeRegs old.f fp.f core.f
    psr := { core.psr with
      cc := pick old.psr.cc fp.psr.cc core.psr.cc
      pm := pick old.psr.pm fp.psr.pm core.psr.pm }
    kr := fp.kr
    ki := fp.ki
    t := fp.t
    merge := fp.merge
    aPipe := fp.aPipe
    mPipe := fp.mPipe
    gPipe := fp.gPipe
    fpPending := pick old.fpPending fp.fpPending core.fpPending }

/-- A refusal that depends only on the instruction word and the mode, which R411 puts before every trap. -/
def Refusal.static : Refusal → Bool
  | .misalignedTarget => false
  | .pipePrecision => false
  | .mulStageCount => false
  | .pixelSize => false
  | .storeToPendingPfld => false
  | .dataBreakpoint => false
  | .addressTranslation => false
  | .bigEndian => false
  | .trapInLockedSequence => false
  | .returnWithKnf => false
  | .returnIntoSlot => false
  | .outerContextLost => false
  | _ => true

/-- The refusal of an effect that comes before traps. -/
def Eff.staticRefusal : Eff → Option Refusal
  | .refuse r => if r.static then some r else none
  | _ => none

/-- The free values drawn when an effect ends. -/
def Eff.freeAfter (e : Eff) (s : State) : Nat :=
  match e with
  | .ok s' _ => s'.free
  | _ => s.free

/-- A core half that traps: whether the floating-point half has taken effect is a free choice, recorded in KNF
(R387, R422, U14). -/
def pairCoreTrap (s sf sc : State) (c : Cause) : Host.Outcome State Fault Refusal :=
  if Config.freeBool sc.free then (s.overlay sf sc.tick).takeTrap c s.pc true
  else sc.tick.takeTrap c s.pc false

/-- The end of a pair: the floating-point half is examined first, then the core half, each reading the state before the
pair (R384, R387, R411). `d` is the D-bit of the first half, `control` whether the core half is a control transfer,
`conflict` whether both halves write one element. -/
def retirePair (d control conflict : Bool) (s : State) (ef : Eff) (core : State → Eff) :
    Host.Outcome State Fault Refusal :=
  let ec := core { s with free := ef.freeAfter s }
  match modeNext .dual s.armed (some d) with
  | none => .refused .modeExcursion
  | some m =>
    if control && (s.armed || !d) then .refused .controlInTransition
    else if conflict then .refused .pairConflict
    else match ef.staticRefusal, ec.staticRefusal with
      | some r, _ => .refused r
      | none, some r => .refused r
      | none, none =>
        match ef with
        | .refuse r => .refused r
        | .trap c sf => sf.takeTrap c s.pc false
        | .ok sf _ =>
          match ec with
          | .refuse r => .refused r
          | .trap c sc => pairCoreTrap s sf sc c
          | .ok sc cc => .next (s.complete (s.overlay sf sc) m cc)

end Sys2Proof.Machine
end

