-- ==== Sys2Proof/Machine/Traits.lean ====
section
/-!
DEFINITION. What each instruction is and what it writes, one row per instruction (spec/70_reset_and_hazards.md R480;
the D-bit of R123 and R380). The end of a step reads the D-bit and the control-transfer mark; a pair reads the writes to
find a conflict (R384).
-/
namespace Sys2Proof.Machine

/-- The attributes of an instruction. -/
structure Traits where
  /-- the D-bit: floating-point-format instructions and fnop have one (R380, R382) -/
  d : Option Bool
  /-- floating-point format, so the first half of a pair (R383) -/
  fp : Bool
  /-- a control transfer (R224) -/
  control : Bool
  /-- floating-point registers written -/
  fDests : List Reg
  /-- precision and destination of pfld (R164) -/
  pfldDest : Option (Prec × Reg)
  /-- integer registers written -/
  rDests : List Reg
  /-- CC is written (R28) -/
  cc : Bool
  /-- PM is written (R37) -/
  pm : Bool
  /-- source or result exceptions are reported through fsr (R401) -/
  reports : Bool
  /-- fsr is written -/
  fsr : Bool
  deriving DecidableEq, Repr

/-- A core instruction that writes integer registers only. -/
def Traits.core (rDests : List Reg) : Traits where
  d := none
  fp := false
  control := false
  fDests := []
  pfldDest := none
  rDests := rDests
  cc := false
  pm := false
  reports := false
  fsr := false

/-- A core instruction that sets CC. -/
def Traits.coreCc (dest : Reg) : Traits := { Traits.core [dest] with cc := true }

/-- A control transfer. -/
def Traits.branch (rDests : List Reg) : Traits := { Traits.core rDests with control := true }

/-- A core instruction that writes floating-point registers, and its base if it autoincrements. -/
def Traits.load (auto : Bool) (base : Reg) (fDests : List Reg) : Traits :=
  { Traits.core (if auto then [base] else []) with fDests := fDests }

/-- A pipelined floating-point load. -/
def Traits.pfld (auto : Bool) (base : Reg) (p : Prec) (dest : Reg) : Traits :=
  { Traits.core (if auto then [base] else []) with pfldDest := some (p, dest) }

/-- A floating-point-format instruction that can report SE or RE. -/
def Traits.arith (d : Bool) (p : Prec) (dest : Reg) : Traits :=
  { Traits.core [] with d := some d, fp := true, fDests := p.regs dest, reports := true }

/-- A floating-point-format instruction without a fault. -/
def Traits.graphics (d : Bool) (p : Prec) (dest : Reg) : Traits :=
  { Traits.core [] with d := some d, fp := true, fDests := p.regs dest }

/-- A compare. -/
def Traits.compare (d : Bool) (p : Prec) (dest : Reg) : Traits := { Traits.arith d p dest with cc := true }

/-- A Z-buffer check. -/
def Traits.zCheck (d : Bool) (dest : Reg) : Traits := { Traits.graphics d .d dest with pm := true }

/-- shrd: exactly fnop (all register fields r0) carries a D-bit (R383). -/
def Traits.shrd (d : Bool) (src1 src2 dest : Reg) : Traits :=
  { Traits.core [dest] with d := if src1 = 0 ∧ src2 = 0 ∧ dest = 0 then some d else none }

/-- st.c by control register. -/
def Traits.stc (c : CReg) : Traits :=
  { Traits.core [] with cc := decide (c = .psr), pm := decide (c = .psr), fsr := decide (c = .fsr) }

/-- Attributes of each instruction. -/
def traits : Instr → Traits
  | .ldbR _ _ dest => .core [dest]
  | .ldbI _ _ dest => .core [dest]
  | .ldsR _ _ dest => .core [dest]
  | .ldsI _ _ dest => .core [dest]
  | .ldlR _ _ dest => .core [dest]
  | .ldlI _ _ dest => .core [dest]
  | .ixfr _ dest => .load false 0 [dest]
  | .stb _ _ _ => .core []
  | .sts _ _ _ => .core []
  | .stl _ _ _ => .core []
  | .fldlR auto _ src2 dest => .load auto src2 [dest]
  | .fldlI auto _ src2 dest => .load auto src2 [dest]
  | .flddR auto _ src2 dest => .load auto src2 [dest, dest + 1]
  | .flddI auto _ src2 dest => .load auto src2 [dest, dest + 1]
  | .fldqR auto _ src2 dest => .load auto src2 [dest, dest + 1, dest + 2, dest + 3]
  | .fldqI auto _ src2 dest => .load auto src2 [dest, dest + 1, dest + 2, dest + 3]
  | .fstlR auto _ src2 _ => .load auto src2 []
  | .fstlI auto _ src2 _ => .load auto src2 []
  | .fstdR auto _ src2 _ => .load auto src2 []
  | .fstdI auto _ src2 _ => .load auto src2 []
  | .fstqR auto _ src2 _ => .load auto src2 []
  | .fstqI auto _ src2 _ => .load auto src2 []
  | .pfldlR auto _ src2 dest => .pfld auto src2 .s dest
  | .pfldlI auto _ src2 dest => .pfld auto src2 .s dest
  | .pflddR auto _ src2 dest => .pfld auto src2 .d dest
  | .pflddI auto _ src2 dest => .pfld auto src2 .d dest
  | .ldc _ dest => .core [dest]
  | .flush auto _ src2 => .load auto src2 []
  | .stc _ csrc => .stc csrc
  | .pstd auto _ src2 _ => { Traits.load auto src2 [] with pm := true }
  | .bri _ => .branch []
  | .trap _ _ _ => .core []
  | .lock => .core []
  | .calli _ => .branch [1]
  | .intovr => .core []
  | .unlock => .core []
  | .btneR _ _ _ => .branch []
  | .btneI _ _ _ => .branch []
  | .bteR _ _ _ => .branch []
  | .bteI _ _ _ => .branch []
  | .br _ => .branch []
  | .call _ => .branch [1]
  | .bc _ => .branch []
  | .bcT _ => .branch []
  | .bnc _ => .branch []
  | .bncT _ => .branch []
  | .adduR _ _ dest => .coreCc dest
  | .adduI _ _ dest => .coreCc dest
  | .subuR _ _ dest => .coreCc dest
  | .subuI _ _ dest => .coreCc dest
  | .addsR _ _ dest => .coreCc dest
  | .addsI _ _ dest => .coreCc dest
  | .subsR _ _ dest => .coreCc dest
  | .subsI _ _ dest => .coreCc dest
  | .shlR _ _ dest => .core [dest]
  | .shlI _ _ dest => .core [dest]
  | .shrR _ _ dest => .core [dest]
  | .shrI _ _ dest => .core [dest]
  | .shrd d src1 src2 dest => .shrd d src1 src2 dest
  | .bla _ src2 _ => .branch [src2]
  | .shraR _ _ dest => .core [dest]
  | .shraI _ _ dest => .core [dest]
  | .andR _ _ dest => .coreCc dest
  | .andI _ _ dest => .coreCc dest
  | .andh _ _ dest => .coreCc dest
  | .andnotR _ _ dest => .coreCc dest
  | .andnotI _ _ dest => .coreCc dest
  | .andnoth _ _ dest => .coreCc dest
  | .orR _ _ dest => .coreCc dest
  | .orI _ _ dest => .coreCc dest
  | .orh _ _ dest => .coreCc dest
  | .xorR _ _ dest => .coreCc dest
  | .xorI _ _ dest => .coreCc dest
  | .xorh _ _ dest => .coreCc dest
  | .pfamSs _ d _ _ dest => .arith d .s dest
  | .pfamSd _ d _ _ dest => .arith d .d dest
  | .pfamDd _ d _ _ dest => .arith d .d dest
  | .pfmamSs _ d _ _ dest => .arith d .s dest
  | .pfmamSd _ d _ _ dest => .arith d .d dest
  | .pfmamDd _ d _ _ dest => .arith d .d dest
  | .pfsmSs _ d _ _ dest => .arith d .s dest
  | .pfsmSd _ d _ _ dest => .arith d .d dest
  | .pfsmDd _ d _ _ dest => .arith d .d dest
  | .pfmsmSs _ d _ _ dest => .arith d .s dest
  | .pfmsmSd _ d _ _ dest => .arith d .d dest
  | .pfmsmDd _ d _ _ dest => .arith d .d dest
  | .fmulSs d _ _ dest => .arith d .s dest
  | .fmulSd d _ _ dest => .arith d .d dest
  | .fmulDd d _ _ dest => .arith d .d dest
  | .pfmulSs d _ _ dest => .arith d .s dest
  | .pfmulSd d _ _ dest => .arith d .d dest
  | .pfmulDd d _ _ dest => .arith d .d dest
  | .fmlowDd d _ _ dest => .graphics d .d dest
  | .frcpSs d _ dest => .arith d .s dest
  | .frcpSd d _ dest => .arith d .d dest
  | .frcpDd d _ dest => .arith d .d dest
  | .frsqrSs d _ dest => .arith d .s dest
  | .frsqrSd d _ dest => .arith d .d dest
  | .frsqrDd d _ dest => .arith d .d dest
  | .pfmul3Dd d _ _ dest => .arith d .d dest
  | .faddSs d _ _ dest => .arith d .s dest
  | .faddSd d _ _ dest => .arith d .d dest
  | .faddDd d _ _ dest => .arith d .d dest
  | .pfaddSs d _ _ dest => .arith d .s dest
  | .pfaddSd d _ _ dest => .arith d .d dest
  | .pfaddDd d _ _ dest => .arith d .d dest
  | .fsubSs d _ _ dest => .arith d .s dest
  | .fsubSd d _ _ dest => .arith d .d dest
  | .fsubDd d _ _ dest => .arith d .d dest
  | .pfsubSs d _ _ dest => .arith d .s dest
  | .pfsubSd d _ _ dest => .arith d .d dest
  | .pfsubDd d _ _ dest => .arith d .d dest
  | .fixSs d _ dest => .arith d .s dest
  | .fixSd d _ dest => .arith d .d dest
  | .fixDd d _ dest => .arith d .d dest
  | .pfixSs d _ dest => .arith d .s dest
  | .pfixSd d _ dest => .arith d .d dest
  | .pfixDd d _ dest => .arith d .d dest
  | .famovSs d _ dest => .arith d .s dest
  | .famovSd d _ dest => .arith d .d dest
  | .famovDs d _ dest => .arith d .s dest
  | .famovDd d _ dest => .arith d .d dest
  | .pfamovSs d _ dest => .arith d .s dest
  | .pfamovSd d _ dest => .arith d .d dest
  | .pfamovDs d _ dest => .arith d .s dest
  | .pfamovDd d _ dest => .arith d .d dest
  | .pfgtSs d _ _ dest => .compare d .s dest
  | .pfgtDd d _ _ dest => .compare d .d dest
  | .pfleSs d _ _ dest => .compare d .s dest
  | .pfleDd d _ _ dest => .compare d .d dest
  | .pfeqSs d _ _ dest => .compare d .s dest
  | .pfeqDd d _ _ dest => .compare d .d dest
  | .ftruncSs d _ dest => .arith d .s dest
  | .ftruncSd d _ dest => .arith d .d dest
  | .ftruncDd d _ dest => .arith d .d dest
  | .pftruncSs d _ dest => .arith d .s dest
  | .pftruncSd d _ dest => .arith d .d dest
  | .pftruncDd d _ dest => .arith d .d dest
  | .fxfr d _ dest => { Traits.graphics d .d 0 with rDests := [dest] }
  | .fiaddSs d _ _ dest => .graphics d .s dest
  | .fiaddDd d _ _ dest => .graphics d .d dest
  | .pfiaddSs d _ _ dest => .graphics d .s dest
  | .pfiaddDd d _ _ dest => .graphics d .d dest
  | .fisubSs d _ _ dest => .graphics d .s dest
  | .fisubDd d _ _ dest => .graphics d .d dest
  | .pfisubSs d _ _ dest => .graphics d .s dest
  | .pfisubDd d _ _ dest => .graphics d .d dest
  | .faddp d _ _ dest => .graphics d .d dest
  | .pfaddp d _ _ dest => .graphics d .d dest
  | .faddz d _ _ dest => .graphics d .d dest
  | .pfaddz d _ _ dest => .graphics d .d dest
  | .fzchkl d _ _ dest => .zCheck d dest
  | .pfzchkl d _ _ dest => .zCheck d dest
  | .form d _ dest => .graphics d .d dest
  | .pform d _ dest => .graphics d .d dest
  | .fzchks d _ _ dest => .zCheck d dest
  | .pfzchks d _ _ dest => .zCheck d dest
  | .mov _ dest => .core [dest]
  | .nop => .core []
  | .fnop d => { Traits.core [] with d := some d }
  | .fmovSs d _ dest => .graphics d .s dest
  | .fmovDd d _ dest => .graphics d .d dest
  | .fmovSd d _ dest => .arith d .d dest
  | .fmovDs d _ dest => .arith d .s dest
  | .pfmovSs d _ dest => .graphics d .s dest
  | .pfmovDd d _ dest => .graphics d .d dest
  | .pfmovSd d _ dest => .arith d .d dest
  | .pfmovDs d _ dest => .arith d .s dest

/-- The D-bit of an instruction (R123, R382). -/
def dbit (i : Instr) : Option Bool := (traits i).d

/-- A control transfer (R224). -/
def isControl (i : Instr) : Bool := (traits i).control

/-- Floating-point registers the core half of a pair writes; pfld writes what `deliverLoad` writes: the width of the
entry it delivers, or nothing where that does not fit; for an undefined entry its own width, or one register (R164). -/
def coreFDests (s : State) (i : Instr) : List Reg :=
  match (traits i).pfldDest with
  | none => (traits i).fDests
  | some (p, dest) =>
    match s.lPipe.q3 with
    | .val _ _ q => if q.fits dest then q.regs dest else []
    | .undef => if p.fits dest then p.regs dest else [dest]

/-- Both halves of a pair write one state element; writes to r0, f0 and f1 never conflict (R384). -/
def pairConflict (s : State) (fi ci : Instr) : Bool :=
  let a := traits fi
  let b := traits ci
  (a.fDests.any fun x => !isFZero x && (coreFDests s ci).contains x)
    || (a.rDests.any fun x => !decide (x = 0) && b.rDests.contains x)
    || (a.cc && b.cc) || (a.pm && b.pm) || (a.reports && b.fsr)

/-- May stand in the first half of a pair: floating-point format, or fnop (R383). -/
def firstHalf (i : Instr) : Bool := (traits i).d.isSome

/-- May stand in the second half of a pair: any core instruction (R383). -/
def secondHalf (i : Instr) : Bool := !(traits i).fp

/-- The end of the step of one instruction. In dual-instruction mode the instruction is taken with a no-operation in
the other half of its pair (log entry 18); `step` runs real pairs through `retirePair` itself. -/
def retire (i : Instr) (s : State) (effect : State → Eff) : Host.Outcome State Fault Refusal :=
  match s.mode with
  | .single => retireSingle (dbit i) (isControl i) s (effect s)
  | .dual =>
    match dbit i with
    | some d => retirePair d false false s (effect s) fun s' => .ok s' .seq
    | none => retirePair (!s.armed) (isControl i) false s (.ok s .seq) effect

end Sys2Proof.Machine
end

