-- ==== Sys2Proof/Machine/Control.lean ====
section
/-!
DEFINITION. Control transfers (spec/42_control_transfer.md).
-/
namespace Sys2Proof.Machine

/-- `brx` of a 26-bit offset (R10, R385). -/
def State.brx26 (s : State) (off : BitVec 26) : Word := s.instAddr + 4 + branchDisp26 off

/-- `brx` of a 16-bit offset (R10, R385). -/
def State.brx16 (s : State) (off : BitVec 16) : Word := s.instAddr + 4 + branchDisp16 off

/-- No control transfer, trap or intovr stands in a delay slot (R223). -/
def notInSlot (s : State) (k : Eff) : Eff := demand (!s.delay.isSome) .controlInSlot k

/-- A non-delayed branch (R210). -/
def branchIf (taken : Bool) (target : Word) (s : State) : Eff :=
  notInSlot s <| .ok s (if taken then .jump target else .seq)

/-- bc.t and bnc.t: delayed if taken, else the next instruction is skipped (R212). -/
def branchOrSkip (taken : Bool) (target : Word) (s : State) : Eff :=
  notInSlot s <| .ok s (if taken then .delayed target none else .skip)

/-- A register target must be a multiple of 4 (R217). -/
def targetOk (t : Word) : Bool := decide (t.toNat % 4 = 0)

/-- call and calli write r1 and are not for dual-instruction mode (R221, R385). -/
def callTo (target : Word) (s : State) : Eff :=
  .ok (s.setR 1 (s.pc + 8)) (.delayed target none)

/-- `bc` (R211). -/
def effBc (off : BitVec 26) (s : State) : Eff :=
  branchIf s.psr.cc (s.brx26 off) s

/-- One step of `bc`. -/
def execBc (off : BitVec 26) (s : State) : Host.Outcome State Fault Refusal :=
  retire (.bc off) s (effBc off)

/-- `bc.t` (R212). -/
def effBcT (off : BitVec 26) (s : State) : Eff :=
  branchOrSkip s.psr.cc (s.brx26 off) s

/-- One step of `bc.t`. -/
def execBcT (off : BitVec 26) (s : State) : Host.Outcome State Fault Refusal :=
  retire (.bcT off) s (effBcT off)

/-- `bnc` (R213). -/
def effBnc (off : BitVec 26) (s : State) : Eff :=
  branchIf (!s.psr.cc) (s.brx26 off) s

/-- One step of `bnc`. -/
def execBnc (off : BitVec 26) (s : State) : Host.Outcome State Fault Refusal :=
  retire (.bnc off) s (effBnc off)

/-- `bnc.t` (R214). -/
def effBncT (off : BitVec 26) (s : State) : Eff :=
  branchOrSkip (!s.psr.cc) (s.brx26 off) s

/-- One step of `bnc.t`. -/
def execBncT (off : BitVec 26) (s : State) : Host.Outcome State Fault Refusal :=
  retire (.bncT off) s (effBncT off)

/-- `br` (R218). -/
def effBr (off : BitVec 26) (s : State) : Eff :=
  notInSlot s <| .ok s (.delayed (s.brx26 off) none)

/-- One step of `br`. -/
def execBr (off : BitVec 26) (s : State) : Host.Outcome State Fault Refusal :=
  retire (.br off) s (effBr off)

/-- `call` (R221). -/
def effCall (off : BitVec 26) (s : State) : Eff :=
  notInSlot s <|
  demand (decide (s.mode = .single)) .callInDual <| callTo (s.brx26 off) s

/-- One step of `call`. -/
def execCall (off : BitVec 26) (s : State) : Host.Outcome State Fault Refusal :=
  retire (.call off) s (effCall off)

/-- `calli` (R222). -/
def effCalli (src1 : Reg) (s : State) : Eff :=
  notInSlot s <|
  demand (decide (s.mode = .single)) .callInDual <|
  demand (!decide (src1 = 1)) .calliR1 <|
  demand (targetOk (s.R src1)) .misalignedTarget <| callTo (s.R src1) s

/-- One step of `calli`. -/
def execCalli (src1 : Reg) (s : State) : Host.Outcome State Fault Refusal :=
  retire (.calli src1) s (effCalli src1)

/-- `bri` (R215). -/
def effBri (src1 : Reg) (s : State) : Eff :=
  notInSlot s <|
  demand (targetOk (s.R src1)) .misalignedTarget <|
  if s.psr.anyTrap then s.returnFromTrap (s.R src1) else .ok s (.delayed (s.R src1) none)

/-- One step of `bri`. -/
def execBri (src1 : Reg) (s : State) : Host.Outcome State Fault Refusal :=
  retire (.bri src1) s (effBri src1)

/-- `bte`, register form (R219). -/
def effBteR (src1 src2 : Reg) (off : BitVec 16) (s : State) : Eff :=
  branchIf (decide (s.R src1 = s.R src2)) (s.brx16 off) s

/-- One step of `bte`, register form. -/
def execBteR (src1 src2 : Reg) (off : BitVec 16) (s : State) : Host.Outcome State Fault Refusal :=
  retire (.bteR src1 src2 off) s (effBteR src1 src2 off)

/-- `bte`, immediate form, zero-extended (R219). -/
def effBteI (imm : BitVec 5) (src2 : Reg) (off : BitVec 16) (s : State) : Eff :=
  branchIf (decide (imm.setWidth 32 = s.R src2)) (s.brx16 off) s

/-- One step of `bte`, immediate form, zero-extended. -/
def execBteI (imm : BitVec 5) (src2 : Reg) (off : BitVec 16) (s : State) : Host.Outcome State Fault Refusal :=
  retire (.bteI imm src2 off) s (effBteI imm src2 off)

/-- `btne`, register form (R220). -/
def effBtneR (src1 src2 : Reg) (off : BitVec 16) (s : State) : Eff :=
  branchIf (!decide (s.R src1 = s.R src2)) (s.brx16 off) s

/-- One step of `btne`, register form. -/
def execBtneR (src1 src2 : Reg) (off : BitVec 16) (s : State) : Host.Outcome State Fault Refusal :=
  retire (.btneR src1 src2 off) s (effBtneR src1 src2 off)

/-- `btne`, immediate form, zero-extended (R220). -/
def effBtneI (imm : BitVec 5) (src2 : Reg) (off : BitVec 16) (s : State) : Eff :=
  branchIf (!decide (imm.setWidth 32 = s.R src2)) (s.brx16 off) s

/-- One step of `btne`, immediate form, zero-extended. -/
def execBtneI (imm : BitVec 5) (src2 : Reg) (off : BitVec 16) (s : State) : Host.Outcome State Fault Refusal :=
  retire (.btneI imm src2 off) s (effBtneI imm src2 off)

/-- `bla`: the old LCC decides, the new one is written, the slot always executes (R216). -/
def effBla (src1 src2 : Reg) (off : BitVec 16) (s : State) : Eff :=
  notInSlot s <|
  demand (!decide (src1 = src2)) .restrictionF <|
  .ok ({ s with psr := { s.psr with lcc := lccFlag (s.R src1) (s.R src2) } }.setR src2 (s.R src1 + s.R src2))
    (.delayed (if s.psr.lcc then s.brx16 off else s.afterSlot) none)

/-- One step of `bla`: the old LCC decides, the new one is written, the slot always executes. -/
def execBla (src1 src2 : Reg) (off : BitVec 16) (s : State) : Host.Outcome State Fault Refusal :=
  retire (.bla src1 src2 off) s (effBla src1 src2 off)

end Sys2Proof.Machine
end

