-- ==== Sys2Proof/Machine/FpScalar.lean ====
section
/-!
DEFINITION. Scalar floating-point instructions (spec/44_fp_scalar.md).
-/
namespace Sys2Proof.Machine

/-- Register numbers of a two-source instruction (R33, R262). -/
def fits2 (sp : Prec) (src1 src2 : Reg) (rp : Prec) (dest : Reg) : Bool :=
  sp.fits src1 && sp.fits src2 && rp.fits dest

/-- Register numbers of a one-source instruction. -/
def fits1 (sp : Prec) (src : Reg) (rp : Prec) (dest : Reg) : Bool := sp.fits src && rp.fits dest

/-- A scalar adder result: the adder pipeline becomes undefined (R263, R53). -/
def scalarAdder (rp : Prec) (dest : Reg) (o : FpOut) (s : State) : Eff :=
  checkSource o.se s <|
  .ok (({ s with aPipe := Pipe3.clear }.fwrite dest rp o.value).noteResult o) .seq

/-- A scalar multiplier result: the multiplier pipeline becomes undefined (R263, R53). -/
def scalarMultiplier (rp : Prec) (dest : Reg) (o : FpOut) (s : State) : Eff :=
  checkSource o.se s <|
  .ok (({ s with mPipe := s.mPipe.clear }.fwrite dest rp o.value).noteResult o) .seq

/-- A two-source scalar instruction: `unit` ends it, `f` is the configuration function (R263). -/
def scalar2 (unit : Prec → Reg → FpOut → State → Eff) (f : Prec → Prec → FpEnv → DWord → DWord → FpOut)
    (sp rp : Prec) (src1 src2 dest : Reg) (s : State) : Eff :=
  demand (fits2 sp src1 src2 rp dest) .registerAlignment <|
  reportResult s <| unit rp dest (f sp rp s.fpEnv (s.fread src1 sp) (s.fread src2 sp)) s

/-- The result of fix or ftrunc at its precision: bits 63..32 of a double result are free (R270, D27, U11). -/
def intResult (rp : Prec) (v upper : DWord) : DWord :=
  match rp with
  | .s => v
  | .d => upper.extractLsb' 0 32 ++ v.setWidth 32

/-- A conversion to integer (R270, R271): a double result draws its upper half. -/
def scalarToInt (f : Prec → FpEnv → DWord → FpOut) (sp rp : Prec) (src dest : Reg) (s : State) : Eff :=
  demand (fits1 sp src rp dest) .registerAlignment <|
  reportResult s <|
  let o := f sp s.fpEnv (s.fread src sp)
  checkSource o.se s <|
  let s' := if rp = .d then s.tick else s
  .ok (({ s' with aPipe := Pipe3.clear }.fwrite dest rp (intResult rp o.value s.drawn)).noteResult o) .seq

/-- famov raises no result exception (R272). -/
def FpOut.noResult (o : FpOut) : FpOut := { o with overflow := false, underflow := false, inexact := false }

/-- A move through the adder (R272). -/
def scalarMove (sp rp : Prec) (src dest : Reg) (s : State) : Eff :=
  demand (fits1 sp src rp dest) .registerAlignment <|
  reportResult s <| scalarAdder rp dest (fpCvt sp rp s.fpEnv (s.fread src sp)).noResult s

/-- frcp and frsqr: a free value picks a member of the set within the bound (R268, R269, U13). -/
def scalarSeed (f : Prec → Prec → FpEnv → DWord → DWord → FpOut) (sp rp : Prec) (src dest : Reg) (s : State) : Eff :=
  demand (fits1 sp src rp dest) .registerAlignment <|
  reportResult s <|
  let o := f sp rp s.fpEnv (s.fread src sp) s.drawn
  checkSource o.se s <|
  .ok (({ s.tick with mPipe := s.mPipe.clear }.fwrite dest rp o.value).noteResult o) .seq

/-- The 64-bit result of fmlow.dd: bits 52..0 and 53 of the product of the low 53 bits, the rest free (R266, D50). -/
def mulLow (a b free : DWord) : DWord :=
  let p := (a.setWidth 53).toNat * (b.setWidth 53).toNat
  free.extractLsb' 54 10 ++ BitVec.ofBool (p.testBit 105) ++ BitVec.ofNat 53 p

/-- `fadd.ss` (R264). -/
def effFaddSs (_d : Bool) (src1 src2 dest : Reg) (s : State) : Eff :=
  scalar2 scalarAdder fpAdd .s .s src1 src2 dest s

/-- One step of `fadd.ss`. -/
def execFaddSs (d : Bool) (src1 src2 dest : Reg) (s : State) : Host.Outcome State Fault Refusal :=
  retire (.faddSs d src1 src2 dest) s (effFaddSs d src1 src2 dest)

/-- `fadd.sd` (R264). -/
def effFaddSd (_d : Bool) (src1 src2 dest : Reg) (s : State) : Eff :=
  scalar2 scalarAdder fpAdd .s .d src1 src2 dest s

/-- One step of `fadd.sd`. -/
def execFaddSd (d : Bool) (src1 src2 dest : Reg) (s : State) : Host.Outcome State Fault Refusal :=
  retire (.faddSd d src1 src2 dest) s (effFaddSd d src1 src2 dest)

/-- `fadd.dd` (R264). -/
def effFaddDd (_d : Bool) (src1 src2 dest : Reg) (s : State) : Eff :=
  scalar2 scalarAdder fpAdd .d .d src1 src2 dest s

/-- One step of `fadd.dd`. -/
def execFaddDd (d : Bool) (src1 src2 dest : Reg) (s : State) : Host.Outcome State Fault Refusal :=
  retire (.faddDd d src1 src2 dest) s (effFaddDd d src1 src2 dest)

/-- `fsub.ss` (R265). -/
def effFsubSs (_d : Bool) (src1 src2 dest : Reg) (s : State) : Eff :=
  scalar2 scalarAdder fpSub .s .s src1 src2 dest s

/-- One step of `fsub.ss`. -/
def execFsubSs (d : Bool) (src1 src2 dest : Reg) (s : State) : Host.Outcome State Fault Refusal :=
  retire (.fsubSs d src1 src2 dest) s (effFsubSs d src1 src2 dest)

/-- `fsub.sd` (R265). -/
def effFsubSd (_d : Bool) (src1 src2 dest : Reg) (s : State) : Eff :=
  scalar2 scalarAdder fpSub .s .d src1 src2 dest s

/-- One step of `fsub.sd`. -/
def execFsubSd (d : Bool) (src1 src2 dest : Reg) (s : State) : Host.Outcome State Fault Refusal :=
  retire (.fsubSd d src1 src2 dest) s (effFsubSd d src1 src2 dest)

/-- `fsub.dd` (R265). -/
def effFsubDd (_d : Bool) (src1 src2 dest : Reg) (s : State) : Eff :=
  scalar2 scalarAdder fpSub .d .d src1 src2 dest s

/-- One step of `fsub.dd`. -/
def execFsubDd (d : Bool) (src1 src2 dest : Reg) (s : State) : Host.Outcome State Fault Refusal :=
  retire (.fsubDd d src1 src2 dest) s (effFsubDd d src1 src2 dest)

/-- `fmul.ss` (R267). -/
def effFmulSs (_d : Bool) (src1 src2 dest : Reg) (s : State) : Eff :=
  scalar2 scalarMultiplier fpMul .s .s src1 src2 dest s

/-- One step of `fmul.ss`. -/
def execFmulSs (d : Bool) (src1 src2 dest : Reg) (s : State) : Host.Outcome State Fault Refusal :=
  retire (.fmulSs d src1 src2 dest) s (effFmulSs d src1 src2 dest)

/-- `fmul.sd` (R267). -/
def effFmulSd (_d : Bool) (src1 src2 dest : Reg) (s : State) : Eff :=
  scalar2 scalarMultiplier fpMul .s .d src1 src2 dest s

/-- One step of `fmul.sd`. -/
def execFmulSd (d : Bool) (src1 src2 dest : Reg) (s : State) : Host.Outcome State Fault Refusal :=
  retire (.fmulSd d src1 src2 dest) s (effFmulSd d src1 src2 dest)

/-- `fmul.dd` (R267). -/
def effFmulDd (_d : Bool) (src1 src2 dest : Reg) (s : State) : Eff :=
  scalar2 scalarMultiplier fpMul .d .d src1 src2 dest s

/-- One step of `fmul.dd`. -/
def execFmulDd (d : Bool) (src1 src2 dest : Reg) (s : State) : Host.Outcome State Fault Refusal :=
  retire (.fmulDd d src1 src2 dest) s (effFmulDd d src1 src2 dest)

/-- `fmlow.dd` (R266). -/
def effFmlowDd (_d : Bool) (src1 src2 dest : Reg) (s : State) : Eff :=
  demand (fits2 .d src1 src2 .d dest) .registerAlignment <|
  reportResult s <|
  .ok ({ s.tick with mPipe := s.mPipe.clear }.setFD dest (mulLow (s.FD src1) (s.FD src2) s.drawn)) .seq

/-- One step of `fmlow.dd`. -/
def execFmlowDd (d : Bool) (src1 src2 dest : Reg) (s : State) : Host.Outcome State Fault Refusal :=
  retire (.fmlowDd d src1 src2 dest) s (effFmlowDd d src1 src2 dest)

/-- `frcp.ss` (R268). -/
def effFrcpSs (_d : Bool) (src2 dest : Reg) (s : State) : Eff :=
  scalarSeed fpRcp .s .s src2 dest s

/-- One step of `frcp.ss`. -/
def execFrcpSs (d : Bool) (src2 dest : Reg) (s : State) : Host.Outcome State Fault Refusal :=
  retire (.frcpSs d src2 dest) s (effFrcpSs d src2 dest)

/-- `frcp.sd` (R268). -/
def effFrcpSd (_d : Bool) (src2 dest : Reg) (s : State) : Eff :=
  scalarSeed fpRcp .s .d src2 dest s

/-- One step of `frcp.sd`. -/
def execFrcpSd (d : Bool) (src2 dest : Reg) (s : State) : Host.Outcome State Fault Refusal :=
  retire (.frcpSd d src2 dest) s (effFrcpSd d src2 dest)

/-- `frcp.dd` (R268). -/
def effFrcpDd (_d : Bool) (src2 dest : Reg) (s : State) : Eff :=
  scalarSeed fpRcp .d .d src2 dest s

/-- One step of `frcp.dd`. -/
def execFrcpDd (d : Bool) (src2 dest : Reg) (s : State) : Host.Outcome State Fault Refusal :=
  retire (.frcpDd d src2 dest) s (effFrcpDd d src2 dest)

/-- `frsqr.ss` (R269). -/
def effFrsqrSs (_d : Bool) (src2 dest : Reg) (s : State) : Eff :=
  scalarSeed fpRsqr .s .s src2 dest s

/-- One step of `frsqr.ss`. -/
def execFrsqrSs (d : Bool) (src2 dest : Reg) (s : State) : Host.Outcome State Fault Refusal :=
  retire (.frsqrSs d src2 dest) s (effFrsqrSs d src2 dest)

/-- `frsqr.sd` (R269). -/
def effFrsqrSd (_d : Bool) (src2 dest : Reg) (s : State) : Eff :=
  scalarSeed fpRsqr .s .d src2 dest s

/-- One step of `frsqr.sd`. -/
def execFrsqrSd (d : Bool) (src2 dest : Reg) (s : State) : Host.Outcome State Fault Refusal :=
  retire (.frsqrSd d src2 dest) s (effFrsqrSd d src2 dest)

/-- `frsqr.dd` (R269). -/
def effFrsqrDd (_d : Bool) (src2 dest : Reg) (s : State) : Eff :=
  scalarSeed fpRsqr .d .d src2 dest s

/-- One step of `frsqr.dd`. -/
def execFrsqrDd (d : Bool) (src2 dest : Reg) (s : State) : Host.Outcome State Fault Refusal :=
  retire (.frsqrDd d src2 dest) s (effFrsqrDd d src2 dest)

/-- `fix.ss` (R270). -/
def effFixSs (_d : Bool) (src1 dest : Reg) (s : State) : Eff :=
  scalarToInt fpFix .s .s src1 dest s

/-- One step of `fix.ss`. -/
def execFixSs (d : Bool) (src1 dest : Reg) (s : State) : Host.Outcome State Fault Refusal :=
  retire (.fixSs d src1 dest) s (effFixSs d src1 dest)

/-- `fix.sd` (R270). -/
def effFixSd (_d : Bool) (src1 dest : Reg) (s : State) : Eff :=
  scalarToInt fpFix .s .d src1 dest s

/-- One step of `fix.sd`. -/
def execFixSd (d : Bool) (src1 dest : Reg) (s : State) : Host.Outcome State Fault Refusal :=
  retire (.fixSd d src1 dest) s (effFixSd d src1 dest)

/-- `fix.dd` (R270). -/
def effFixDd (_d : Bool) (src1 dest : Reg) (s : State) : Eff :=
  scalarToInt fpFix .d .d src1 dest s

/-- One step of `fix.dd`. -/
def execFixDd (d : Bool) (src1 dest : Reg) (s : State) : Host.Outcome State Fault Refusal :=
  retire (.fixDd d src1 dest) s (effFixDd d src1 dest)

/-- `ftrunc.ss` (R271). -/
def effFtruncSs (_d : Bool) (src1 dest : Reg) (s : State) : Eff :=
  scalarToInt fpTrunc .s .s src1 dest s

/-- One step of `ftrunc.ss`. -/
def execFtruncSs (d : Bool) (src1 dest : Reg) (s : State) : Host.Outcome State Fault Refusal :=
  retire (.ftruncSs d src1 dest) s (effFtruncSs d src1 dest)

/-- `ftrunc.sd` (R271). -/
def effFtruncSd (_d : Bool) (src1 dest : Reg) (s : State) : Eff :=
  scalarToInt fpTrunc .s .d src1 dest s

/-- One step of `ftrunc.sd`. -/
def execFtruncSd (d : Bool) (src1 dest : Reg) (s : State) : Host.Outcome State Fault Refusal :=
  retire (.ftruncSd d src1 dest) s (effFtruncSd d src1 dest)

/-- `ftrunc.dd` (R271). -/
def effFtruncDd (_d : Bool) (src1 dest : Reg) (s : State) : Eff :=
  scalarToInt fpTrunc .d .d src1 dest s

/-- One step of `ftrunc.dd`. -/
def execFtruncDd (d : Bool) (src1 dest : Reg) (s : State) : Host.Outcome State Fault Refusal :=
  retire (.ftruncDd d src1 dest) s (effFtruncDd d src1 dest)

/-- `famov.ss` (R272). -/
def effFamovSs (_d : Bool) (src1 dest : Reg) (s : State) : Eff :=
  scalarMove .s .s src1 dest s

/-- One step of `famov.ss`. -/
def execFamovSs (d : Bool) (src1 dest : Reg) (s : State) : Host.Outcome State Fault Refusal :=
  retire (.famovSs d src1 dest) s (effFamovSs d src1 dest)

/-- `famov.sd` (R272). -/
def effFamovSd (_d : Bool) (src1 dest : Reg) (s : State) : Eff :=
  scalarMove .s .d src1 dest s

/-- One step of `famov.sd`. -/
def execFamovSd (d : Bool) (src1 dest : Reg) (s : State) : Host.Outcome State Fault Refusal :=
  retire (.famovSd d src1 dest) s (effFamovSd d src1 dest)

/-- `famov.ds` (R272). -/
def effFamovDs (_d : Bool) (src1 dest : Reg) (s : State) : Eff :=
  scalarMove .d .s src1 dest s

/-- One step of `famov.ds`. -/
def execFamovDs (d : Bool) (src1 dest : Reg) (s : State) : Host.Outcome State Fault Refusal :=
  retire (.famovDs d src1 dest) s (effFamovDs d src1 dest)

/-- `famov.dd` (R272). -/
def effFamovDd (_d : Bool) (src1 dest : Reg) (s : State) : Eff :=
  scalarMove .d .d src1 dest s

/-- One step of `famov.dd`. -/
def execFamovDd (d : Bool) (src1 dest : Reg) (s : State) : Host.Outcome State Fault Refusal :=
  retire (.famovDd d src1 dest) s (effFamovDd d src1 dest)

end Sys2Proof.Machine
end

