-- ==== Sys2Proof/Machine/FpPipelined.lean ====
section
/-!
DEFINITION. Pipelined floating-point instructions (spec/45_fp_pipelined.md).
-/
namespace Sys2Proof.Machine

/-- Deliver the last adder stage and start a new entry (R291, R293). -/
def pipedAdder (rp : Prec) (dest : Reg) (new : Entry) (o : FpOut) (s : State) : Eff :=
  checkSource o.se s <|
  match deliver s s.aPipe.q3 dest rp with
  | .error r => .refuse r
  | .ok s' => .ok ({ s' with aPipe := s.aPipe.push new }.noteResult o) .seq

/-- A two-source pipelined adder instruction (R293, R294). -/
def pipedAdder2 (f : Prec → Prec → FpEnv → DWord → DWord → FpOut) (sp rp : Prec) (src1 src2 dest : Reg) (s : State) :
    Eff :=
  demand (fits2 sp src1 src2 rp dest) .registerAlignment <|
  reportResult s <|
  let o := f sp rp s.fpEnv (s.fread src1 sp) (s.fread src2 sp)
  pipedAdder rp dest (.val o.value rp) o s

/-- A pipelined conversion to integer (R295, R296): the upper half of a double entry is drawn here. -/
def pipedToInt (f : Prec → FpEnv → DWord → FpOut) (sp rp : Prec) (src dest : Reg) (s : State) : Eff :=
  demand (fits1 sp src rp dest) .registerAlignment <|
  reportResult s <|
  let o := f sp s.fpEnv (s.fread src sp)
  pipedAdder rp dest (.val (intResult rp o.value s.drawn) rp) o (if rp = .d then s.tick else s)

/-- A pipelined move through the adder (R297). -/
def pipedMove (sp rp : Prec) (src dest : Reg) (s : State) : Eff :=
  demand (fits1 sp src rp dest) .registerAlignment <|
  reportResult s <|
  let o := (fpCvt sp rp s.fpEnv (s.fread src sp)).noResult
  pipedAdder rp dest (.val o.value rp) o s

/-- A compare (R298 to R300): CC from `cond`, an undefined entry into the adder pipeline, delivery at the source
precision. -/
def pipedCompare (f : Prec → FpEnv → DWord → DWord → FpCond) (invert : Bool) (sp : Prec) (src1 src2 dest : Reg)
    (s : State) : Eff :=
  demand (fits2 sp src1 src2 sp dest) .registerAlignment <|
  reportResult s <|
  let c := f sp s.fpEnv (s.fread src1 sp) (s.fread src2 sp)
  checkSource c.se s <|
  match deliver s s.aPipe.q3 dest sp with
  | .error r => .refuse r
  | .ok s' => .ok { s' with aPipe := s.aPipe.push .undef, psr := { s'.psr with cc := c.cc != invert } } .seq

/-- Restriction c: a multiply's first source does not overlap a destination other than f0 (R303, D49). -/
def mulSourceOk (sp : Prec) (src1 : Reg) (rp : Prec) (dest : Reg) : Bool :=
  decide (dest = 0) || !regsOverlap sp src1 rp dest

/-- A pipelined multiply of three or two stages (R301, R302). -/
def pipedMultiplier (three : Bool) (sp rp : Prec) (src1 src2 dest : Reg) (s : State) : Eff :=
  demand (fits2 sp src1 src2 rp dest) .registerAlignment <|
  demand (mulSourceOk sp src1 rp dest) .restrictionC <|
  reportResult s <|
  match s.mPipe.ready three with
  | none => .refuse .mulStageCount
  | some m =>
    let o := fpMul sp rp s.fpEnv (s.fread src1 sp) (s.fread src2 sp)
    checkSource o.se s <|
    match deliver s m.last dest rp with
    | .error r => .refuse r
    | .ok s' => .ok ({ s' with mPipe := m.push (.val o.value rp) }.noteResult o) .seq

/-- `pfadd.ss` (R293). -/
def effPfaddSs (_d : Bool) (src1 src2 dest : Reg) (s : State) : Eff :=
  pipedAdder2 fpAdd .s .s src1 src2 dest s

/-- One step of `pfadd.ss`. -/
def execPfaddSs (d : Bool) (src1 src2 dest : Reg) (s : State) : Host.Outcome State Fault Refusal :=
  retire (.pfaddSs d src1 src2 dest) s (effPfaddSs d src1 src2 dest)

/-- `pfadd.sd` (R293). -/
def effPfaddSd (_d : Bool) (src1 src2 dest : Reg) (s : State) : Eff :=
  pipedAdder2 fpAdd .s .d src1 src2 dest s

/-- One step of `pfadd.sd`. -/
def execPfaddSd (d : Bool) (src1 src2 dest : Reg) (s : State) : Host.Outcome State Fault Refusal :=
  retire (.pfaddSd d src1 src2 dest) s (effPfaddSd d src1 src2 dest)

/-- `pfadd.dd` (R293). -/
def effPfaddDd (_d : Bool) (src1 src2 dest : Reg) (s : State) : Eff :=
  pipedAdder2 fpAdd .d .d src1 src2 dest s

/-- One step of `pfadd.dd`. -/
def execPfaddDd (d : Bool) (src1 src2 dest : Reg) (s : State) : Host.Outcome State Fault Refusal :=
  retire (.pfaddDd d src1 src2 dest) s (effPfaddDd d src1 src2 dest)

/-- `pfsub.ss` (R294). -/
def effPfsubSs (_d : Bool) (src1 src2 dest : Reg) (s : State) : Eff :=
  pipedAdder2 fpSub .s .s src1 src2 dest s

/-- One step of `pfsub.ss`. -/
def execPfsubSs (d : Bool) (src1 src2 dest : Reg) (s : State) : Host.Outcome State Fault Refusal :=
  retire (.pfsubSs d src1 src2 dest) s (effPfsubSs d src1 src2 dest)

/-- `pfsub.sd` (R294). -/
def effPfsubSd (_d : Bool) (src1 src2 dest : Reg) (s : State) : Eff :=
  pipedAdder2 fpSub .s .d src1 src2 dest s

/-- One step of `pfsub.sd`. -/
def execPfsubSd (d : Bool) (src1 src2 dest : Reg) (s : State) : Host.Outcome State Fault Refusal :=
  retire (.pfsubSd d src1 src2 dest) s (effPfsubSd d src1 src2 dest)

/-- `pfsub.dd` (R294). -/
def effPfsubDd (_d : Bool) (src1 src2 dest : Reg) (s : State) : Eff :=
  pipedAdder2 fpSub .d .d src1 src2 dest s

/-- One step of `pfsub.dd`. -/
def execPfsubDd (d : Bool) (src1 src2 dest : Reg) (s : State) : Host.Outcome State Fault Refusal :=
  retire (.pfsubDd d src1 src2 dest) s (effPfsubDd d src1 src2 dest)

/-- `pfix.ss` (R295). -/
def effPfixSs (_d : Bool) (src1 dest : Reg) (s : State) : Eff :=
  pipedToInt fpFix .s .s src1 dest s

/-- One step of `pfix.ss`. -/
def execPfixSs (d : Bool) (src1 dest : Reg) (s : State) : Host.Outcome State Fault Refusal :=
  retire (.pfixSs d src1 dest) s (effPfixSs d src1 dest)

/-- `pfix.sd` (R295). -/
def effPfixSd (_d : Bool) (src1 dest : Reg) (s : State) : Eff :=
  pipedToInt fpFix .s .d src1 dest s

/-- One step of `pfix.sd`. -/
def execPfixSd (d : Bool) (src1 dest : Reg) (s : State) : Host.Outcome State Fault Refusal :=
  retire (.pfixSd d src1 dest) s (effPfixSd d src1 dest)

/-- `pfix.dd` (R295). -/
def effPfixDd (_d : Bool) (src1 dest : Reg) (s : State) : Eff :=
  pipedToInt fpFix .d .d src1 dest s

/-- One step of `pfix.dd`. -/
def execPfixDd (d : Bool) (src1 dest : Reg) (s : State) : Host.Outcome State Fault Refusal :=
  retire (.pfixDd d src1 dest) s (effPfixDd d src1 dest)

/-- `pftrunc.ss` (R296). -/
def effPftruncSs (_d : Bool) (src1 dest : Reg) (s : State) : Eff :=
  pipedToInt fpTrunc .s .s src1 dest s

/-- One step of `pftrunc.ss`. -/
def execPftruncSs (d : Bool) (src1 dest : Reg) (s : State) : Host.Outcome State Fault Refusal :=
  retire (.pftruncSs d src1 dest) s (effPftruncSs d src1 dest)

/-- `pftrunc.sd` (R296). -/
def effPftruncSd (_d : Bool) (src1 dest : Reg) (s : State) : Eff :=
  pipedToInt fpTrunc .s .d src1 dest s

/-- One step of `pftrunc.sd`. -/
def execPftruncSd (d : Bool) (src1 dest : Reg) (s : State) : Host.Outcome State Fault Refusal :=
  retire (.pftruncSd d src1 dest) s (effPftruncSd d src1 dest)

/-- `pftrunc.dd` (R296). -/
def effPftruncDd (_d : Bool) (src1 dest : Reg) (s : State) : Eff :=
  pipedToInt fpTrunc .d .d src1 dest s

/-- One step of `pftrunc.dd`. -/
def execPftruncDd (d : Bool) (src1 dest : Reg) (s : State) : Host.Outcome State Fault Refusal :=
  retire (.pftruncDd d src1 dest) s (effPftruncDd d src1 dest)

/-- `pfamov.ss` (R297). -/
def effPfamovSs (_d : Bool) (src1 dest : Reg) (s : State) : Eff :=
  pipedMove .s .s src1 dest s

/-- One step of `pfamov.ss`. -/
def execPfamovSs (d : Bool) (src1 dest : Reg) (s : State) : Host.Outcome State Fault Refusal :=
  retire (.pfamovSs d src1 dest) s (effPfamovSs d src1 dest)

/-- `pfamov.sd` (R297). -/
def effPfamovSd (_d : Bool) (src1 dest : Reg) (s : State) : Eff :=
  pipedMove .s .d src1 dest s

/-- One step of `pfamov.sd`. -/
def execPfamovSd (d : Bool) (src1 dest : Reg) (s : State) : Host.Outcome State Fault Refusal :=
  retire (.pfamovSd d src1 dest) s (effPfamovSd d src1 dest)

/-- `pfamov.ds` (R297). -/
def effPfamovDs (_d : Bool) (src1 dest : Reg) (s : State) : Eff :=
  pipedMove .d .s src1 dest s

/-- One step of `pfamov.ds`. -/
def execPfamovDs (d : Bool) (src1 dest : Reg) (s : State) : Host.Outcome State Fault Refusal :=
  retire (.pfamovDs d src1 dest) s (effPfamovDs d src1 dest)

/-- `pfamov.dd` (R297). -/
def effPfamovDd (_d : Bool) (src1 dest : Reg) (s : State) : Eff :=
  pipedMove .d .d src1 dest s

/-- One step of `pfamov.dd`. -/
def execPfamovDd (d : Bool) (src1 dest : Reg) (s : State) : Host.Outcome State Fault Refusal :=
  retire (.pfamovDd d src1 dest) s (effPfamovDd d src1 dest)

/-- `pfgt.ss` (R298). -/
def effPfgtSs (_d : Bool) (src1 src2 dest : Reg) (s : State) : Eff :=
  pipedCompare fpGt false .s src1 src2 dest s

/-- One step of `pfgt.ss`. -/
def execPfgtSs (d : Bool) (src1 src2 dest : Reg) (s : State) : Host.Outcome State Fault Refusal :=
  retire (.pfgtSs d src1 src2 dest) s (effPfgtSs d src1 src2 dest)

/-- `pfgt.dd` (R298). -/
def effPfgtDd (_d : Bool) (src1 src2 dest : Reg) (s : State) : Eff :=
  pipedCompare fpGt false .d src1 src2 dest s

/-- One step of `pfgt.dd`. -/
def execPfgtDd (d : Bool) (src1 src2 dest : Reg) (s : State) : Host.Outcome State Fault Refusal :=
  retire (.pfgtDd d src1 src2 dest) s (effPfgtDd d src1 src2 dest)

/-- `pfle.ss`: CC is clear if fsrc1 <= fsrc2 (R299). -/
def effPfleSs (_d : Bool) (src1 src2 dest : Reg) (s : State) : Eff :=
  pipedCompare fpLe true .s src1 src2 dest s

/-- One step of `pfle.ss`: CC is clear if fsrc1 <= fsrc2. -/
def execPfleSs (d : Bool) (src1 src2 dest : Reg) (s : State) : Host.Outcome State Fault Refusal :=
  retire (.pfleSs d src1 src2 dest) s (effPfleSs d src1 src2 dest)

/-- `pfle.dd`: CC is clear if fsrc1 <= fsrc2 (R299). -/
def effPfleDd (_d : Bool) (src1 src2 dest : Reg) (s : State) : Eff :=
  pipedCompare fpLe true .d src1 src2 dest s

/-- One step of `pfle.dd`: CC is clear if fsrc1 <= fsrc2. -/
def execPfleDd (d : Bool) (src1 src2 dest : Reg) (s : State) : Host.Outcome State Fault Refusal :=
  retire (.pfleDd d src1 src2 dest) s (effPfleDd d src1 src2 dest)

/-- `pfeq.ss` (R300). -/
def effPfeqSs (_d : Bool) (src1 src2 dest : Reg) (s : State) : Eff :=
  pipedCompare fpEq false .s src1 src2 dest s

/-- One step of `pfeq.ss`. -/
def execPfeqSs (d : Bool) (src1 src2 dest : Reg) (s : State) : Host.Outcome State Fault Refusal :=
  retire (.pfeqSs d src1 src2 dest) s (effPfeqSs d src1 src2 dest)

/-- `pfeq.dd` (R300). -/
def effPfeqDd (_d : Bool) (src1 src2 dest : Reg) (s : State) : Eff :=
  pipedCompare fpEq false .d src1 src2 dest s

/-- One step of `pfeq.dd`. -/
def execPfeqDd (d : Bool) (src1 src2 dest : Reg) (s : State) : Host.Outcome State Fault Refusal :=
  retire (.pfeqDd d src1 src2 dest) s (effPfeqDd d src1 src2 dest)

/-- `pfmul.ss` (R301). -/
def effPfmulSs (_d : Bool) (src1 src2 dest : Reg) (s : State) : Eff :=
  pipedMultiplier Prec.s.threeStage .s .s src1 src2 dest s

/-- One step of `pfmul.ss`. -/
def execPfmulSs (d : Bool) (src1 src2 dest : Reg) (s : State) : Host.Outcome State Fault Refusal :=
  retire (.pfmulSs d src1 src2 dest) s (effPfmulSs d src1 src2 dest)

/-- `pfmul.sd` (R301). -/
def effPfmulSd (_d : Bool) (src1 src2 dest : Reg) (s : State) : Eff :=
  pipedMultiplier Prec.s.threeStage .s .d src1 src2 dest s

/-- One step of `pfmul.sd`. -/
def execPfmulSd (d : Bool) (src1 src2 dest : Reg) (s : State) : Host.Outcome State Fault Refusal :=
  retire (.pfmulSd d src1 src2 dest) s (effPfmulSd d src1 src2 dest)

/-- `pfmul.dd` (R301). -/
def effPfmulDd (_d : Bool) (src1 src2 dest : Reg) (s : State) : Eff :=
  pipedMultiplier Prec.d.threeStage .d .d src1 src2 dest s

/-- One step of `pfmul.dd`. -/
def execPfmulDd (d : Bool) (src1 src2 dest : Reg) (s : State) : Host.Outcome State Fault Refusal :=
  retire (.pfmulDd d src1 src2 dest) s (effPfmulDd d src1 src2 dest)

/-- `pfmul3.dd` (R302). -/
def effPfmul3Dd (_d : Bool) (src1 src2 dest : Reg) (s : State) : Eff :=
  pipedMultiplier true .d .d src1 src2 dest s

/-- One step of `pfmul3.dd`. -/
def execPfmul3Dd (d : Bool) (src1 src2 dest : Reg) (s : State) : Host.Outcome State Fault Refusal :=
  retire (.pfmul3Dd d src1 src2 dest) s (effPfmul3Dd d src1 src2 dest)

end Sys2Proof.Machine
end

