-- ==== Sys2Proof/Machine/FpDual.lean ====
section
/-!
DEFINITION. Dual-operation floating-point instructions (spec/46_fp_dual_operation.md).
-/
namespace Sys2Proof.Machine

/-- A source of one of the two units (R328). -/
inductive OpSource where
  | src1 | src2 | kr | ki | t | ares | mres
  deriving DecidableEq, Repr

/-- Which K register is loaded from fsrc1. -/
inductive KLoad where
  | none | kr | ki
  deriving DecidableEq, Repr

/-- A row of the data-path table. -/
structure DataPath where
  m1 : OpSource
  m2 : OpSource
  a1 : OpSource
  a2 : OpSource
  tLoad : Bool
  kLoad : KLoad
  deriving DecidableEq, Repr

/-- `DPC_TABLE` of pfam and pfsm (R328). PRESUMED but for 1001 (GK8, log entry 37). -/
def dataPathA (dpc : BitVec 4) : DataPath :=
  match dpc with
  | 0#4 => ⟨.kr, .src2, .src1, .mres, false, .none⟩
  | 1#4 => ⟨.kr, .src2, .t, .mres, false, .kr⟩
  | 2#4 => ⟨.kr, .src2, .src1, .ares, true, .none⟩
  | 3#4 => ⟨.kr, .src2, .t, .ares, true, .kr⟩
  | 4#4 => ⟨.ki, .src2, .src1, .mres, false, .none⟩
  | 5#4 => ⟨.ki, .src2, .t, .mres, false, .ki⟩
  | 6#4 => ⟨.ki, .src2, .src1, .ares, true, .none⟩
  | 7#4 => ⟨.ki, .src2, .t, .ares, true, .ki⟩
  | 8#4 => ⟨.kr, .ares, .src1, .src2, true, .none⟩
  | 9#4 => ⟨.src1, .src2, .ares, .mres, false, .none⟩
  | 10#4 => ⟨.kr, .ares, .src1, .src2, false, .none⟩
  | 11#4 => ⟨.src1, .src2, .t, .ares, true, .none⟩
  | 12#4 => ⟨.ki, .ares, .src1, .src2, true, .none⟩
  | 13#4 => ⟨.src1, .src2, .t, .mres, true, .none⟩
  | 14#4 => ⟨.ki, .ares, .src1, .src2, false, .none⟩
  | _ => ⟨.src1, .src2, .t, .ares, true, .none⟩

/-- `DPC_TABLE` of pfmam and pfmsm (R329). PRESUMED (GK8, log entry 37); 1111 is not assigned and never decoded, and
stands here as 1101. -/
def dataPathM (dpc : BitVec 4) : DataPath :=
  match dpc with
  | 0#4 => ⟨.kr, .src2, .src1, .mres, false, .none⟩
  | 1#4 => ⟨.kr, .src2, .t, .mres, false, .kr⟩
  | 2#4 => ⟨.kr, .src2, .src1, .mres, true, .none⟩
  | 3#4 => ⟨.kr, .src2, .t, .mres, true, .kr⟩
  | 4#4 => ⟨.ki, .src2, .src1, .mres, false, .none⟩
  | 5#4 => ⟨.ki, .src2, .t, .mres, false, .ki⟩
  | 6#4 => ⟨.ki, .src2, .src1, .mres, true, .none⟩
  | 7#4 => ⟨.ki, .src2, .t, .mres, true, .ki⟩
  | 8#4 => ⟨.kr, .mres, .src1, .src2, true, .none⟩
  | 9#4 => ⟨.src1, .src2, .mres, .mres, false, .none⟩
  | 10#4 => ⟨.kr, .mres, .src1, .src2, false, .none⟩
  | 11#4 => ⟨.src1, .src2, .t, .mres, true, .none⟩
  | 12#4 => ⟨.ki, .mres, .src1, .src2, true, .none⟩
  | 13#4 => ⟨.src1, .src2, .t, .mres, true, .none⟩
  | 14#4 => ⟨.ki, .mres, .src1, .src2, false, .none⟩
  | _ => ⟨.src1, .src2, .t, .mres, true, .none⟩

/-- The value of a special register as an operand of a precision; of the other precision it is no operand
(log entry 10). -/
def FpSpecial.entry (x : FpSpecial) (p : Prec) : Entry := if x.prec = p then .val x.v p else .undef

/-- A pipeline entry as an operand of a precision. DESIGN CHOICE (log entry 10): a last stage of the other precision is
no operand, so the entry that starts on it is undefined (R330). -/
def Entry.operand (e : Entry) (p : Prec) : Entry :=
  match e with
  | .val v q => if q = p then .val v p else .undef
  | .undef => .undef

/-- The operand a source gives, all as they stand before the step (R330). -/
def State.dualOperand (s : State) (m : MPipe) (p : Prec) (src1 src2 : Reg) : OpSource → Entry
  | .src1 => .val (s.fread src1 p) p
  | .src2 => .val (s.fread src2 p) p
  | .kr => s.kr.entry p
  | .ki => s.ki.entry p
  | .t => s.t.entry p
  | .ares => s.aPipe.q3.operand p
  | .mres => m.last.operand p

/-- A unit's answer, or none where an operand is undefined (R330). -/
def dualAnswer (f : Prec → Prec → FpEnv → DWord → DWord → FpOut) (env : FpEnv) (p : Prec) : Entry → Entry → Option FpOut
  | .val a _, .val b _ => some (f p p env a b)
  | _, _ => none

/-- The entry a unit starts. -/
def dualEntry (p : Prec) : Option FpOut → Entry
  | some o => .val o.value p
  | none => .undef

/-- The answer of a unit that starts on an undefined operand: exact, so neither SE nor RE is reported. DESIGN CHOICE
(log entry 10): the spec says only that the new entry is undefined (R330). -/
def dualOut (o : Option FpOut) : FpOut := o.getD (.exact 0)

/-- The T load: the last multiplier stage, or a free value where that is no value of the precision (R330). -/
def State.loadT (s : State) (load : Bool) (m : Entry) (p : Prec) : State :=
  if load then
    match m.operand p with
    | .val v _ => { s with t := ⟨v, p⟩ }
    | .undef => { s.tick with t := ⟨p.cut s.drawn, p⟩ }
  else s

/-- The K load: fsrc1 (R330). -/
def State.loadK (s : State) (k : KLoad) (v : DWord) (p : Prec) : State :=
  match k with
  | .none => s
  | .kr => { s with kr := ⟨v, p⟩ }
  | .ki => { s with ki := ⟨v, p⟩ }

/-- Restriction d: where fsrc1 goes to M-op1, KR or KI it does not overlap a destination other than f0 (R331). DESIGN
CHOICE (log entry 42): fsrc1 = fdest = f0 is admitted on every data path, as R323 and R332 show it for m12apm. -/
def dualSourceOk (d : DataPath) (p : Prec) (src1 dest : Reg) : Bool :=
  decide (dest = 0) || !(decide (d.m1 = .src1) || !decide (d.kLoad = .none)) || !regsOverlap p src1 p dest

/-- A dual operation at one precision (R330): `f` the adder's function, `toMul` whether the multiplier's result is the
one delivered (pfmam, pfmsm). -/
def dualOperation (f : Prec → Prec → FpEnv → DWord → DWord → FpOut) (toMul : Bool) (d : DataPath) (p : Prec)
    (src1 src2 dest : Reg) (s : State) : Eff :=
  demand (fits2 p src1 src2 p dest) .registerAlignment <|
  demand (dualSourceOk d p src1 dest) .restrictionD <|
  reportResult s <|
  match s.mPipe.ready p.threeStage with
  | none => .refuse .mulStageCount
  | some m =>
    let x := s.dualOperand m p src1 src2
    let mo := dualAnswer fpMul s.fpEnv p (x d.m1) (x d.m2)
    let ao := dualAnswer f s.fpEnv p (x d.a1) (x d.a2)
    checkSource ((dualOut mo).se || (dualOut ao).se) s <|
    match deliver s (if toMul then m.last else s.aPipe.q3) dest p with
    | .error r => .refuse r
    | .ok s1 =>
      let s2 := (s1.loadT d.tLoad m.last p).loadK d.kLoad (s.fread src1 p) p
      .ok (({ s2 with aPipe := s.aPipe.push (dualEntry p ao), mPipe := m.push (dualEntry p mo) }.noteResult
        (dualOut mo)).noteResult (dualOut ao)) .seq

/-- `pfam.ss` (R324). -/
def effPfamSs (dpc : BitVec 4) (_d : Bool) (src1 src2 dest : Reg) (s : State) : Eff :=
  dualOperation fpAdd false (dataPathA dpc) .s src1 src2 dest s

/-- One step of `pfam.ss`. -/
def execPfamSs (dpc : BitVec 4) (d : Bool) (src1 src2 dest : Reg) (s : State) : Host.Outcome State Fault Refusal :=
  retire (.pfamSs dpc d src1 src2 dest) s (effPfamSs dpc d src1 src2 dest)

/-- `pfam.sd`: refused, the spec gives no effect (R324). -/
def effPfamSd (_dpc : BitVec 4) (_d : Bool) (_src1 _src2 _dest : Reg) (_s : State) : Eff :=
  .refuse .mixedPrecisionDual

/-- One step of `pfam.sd`: refused, the spec gives no effect. -/
def execPfamSd (dpc : BitVec 4) (d : Bool) (src1 src2 dest : Reg) (s : State) : Host.Outcome State Fault Refusal :=
  retire (.pfamSd dpc d src1 src2 dest) s (effPfamSd dpc d src1 src2 dest)

/-- `pfam.dd` (R324). -/
def effPfamDd (dpc : BitVec 4) (_d : Bool) (src1 src2 dest : Reg) (s : State) : Eff :=
  dualOperation fpAdd false (dataPathA dpc) .d src1 src2 dest s

/-- One step of `pfam.dd`. -/
def execPfamDd (dpc : BitVec 4) (d : Bool) (src1 src2 dest : Reg) (s : State) : Host.Outcome State Fault Refusal :=
  retire (.pfamDd dpc d src1 src2 dest) s (effPfamDd dpc d src1 src2 dest)

/-- `pfsm.ss` (R325). -/
def effPfsmSs (dpc : BitVec 4) (_d : Bool) (src1 src2 dest : Reg) (s : State) : Eff :=
  dualOperation fpSub false (dataPathA dpc) .s src1 src2 dest s

/-- One step of `pfsm.ss`. -/
def execPfsmSs (dpc : BitVec 4) (d : Bool) (src1 src2 dest : Reg) (s : State) : Host.Outcome State Fault Refusal :=
  retire (.pfsmSs dpc d src1 src2 dest) s (effPfsmSs dpc d src1 src2 dest)

/-- `pfsm.sd`: refused, the spec gives no effect (R325). -/
def effPfsmSd (_dpc : BitVec 4) (_d : Bool) (_src1 _src2 _dest : Reg) (_s : State) : Eff :=
  .refuse .mixedPrecisionDual

/-- One step of `pfsm.sd`: refused, the spec gives no effect. -/
def execPfsmSd (dpc : BitVec 4) (d : Bool) (src1 src2 dest : Reg) (s : State) : Host.Outcome State Fault Refusal :=
  retire (.pfsmSd dpc d src1 src2 dest) s (effPfsmSd dpc d src1 src2 dest)

/-- `pfsm.dd` (R325). -/
def effPfsmDd (dpc : BitVec 4) (_d : Bool) (src1 src2 dest : Reg) (s : State) : Eff :=
  dualOperation fpSub false (dataPathA dpc) .d src1 src2 dest s

/-- One step of `pfsm.dd`. -/
def execPfsmDd (dpc : BitVec 4) (d : Bool) (src1 src2 dest : Reg) (s : State) : Host.Outcome State Fault Refusal :=
  retire (.pfsmDd dpc d src1 src2 dest) s (effPfsmDd dpc d src1 src2 dest)

/-- `pfmam.ss` (R326). -/
def effPfmamSs (dpc : BitVec 4) (_d : Bool) (src1 src2 dest : Reg) (s : State) : Eff :=
  dualOperation fpAdd true (dataPathM dpc) .s src1 src2 dest s

/-- One step of `pfmam.ss`. -/
def execPfmamSs (dpc : BitVec 4) (d : Bool) (src1 src2 dest : Reg) (s : State) : Host.Outcome State Fault Refusal :=
  retire (.pfmamSs dpc d src1 src2 dest) s (effPfmamSs dpc d src1 src2 dest)

/-- `pfmam.sd`: refused, the spec gives no effect (R326). -/
def effPfmamSd (_dpc : BitVec 4) (_d : Bool) (_src1 _src2 _dest : Reg) (_s : State) : Eff :=
  .refuse .mixedPrecisionDual

/-- One step of `pfmam.sd`: refused, the spec gives no effect. -/
def execPfmamSd (dpc : BitVec 4) (d : Bool) (src1 src2 dest : Reg) (s : State) : Host.Outcome State Fault Refusal :=
  retire (.pfmamSd dpc d src1 src2 dest) s (effPfmamSd dpc d src1 src2 dest)

/-- `pfmam.dd` (R326). -/
def effPfmamDd (dpc : BitVec 4) (_d : Bool) (src1 src2 dest : Reg) (s : State) : Eff :=
  dualOperation fpAdd true (dataPathM dpc) .d src1 src2 dest s

/-- One step of `pfmam.dd`. -/
def execPfmamDd (dpc : BitVec 4) (d : Bool) (src1 src2 dest : Reg) (s : State) : Host.Outcome State Fault Refusal :=
  retire (.pfmamDd dpc d src1 src2 dest) s (effPfmamDd dpc d src1 src2 dest)

/-- `pfmsm.ss` (R327). -/
def effPfmsmSs (dpc : BitVec 4) (_d : Bool) (src1 src2 dest : Reg) (s : State) : Eff :=
  dualOperation fpSub true (dataPathM dpc) .s src1 src2 dest s

/-- One step of `pfmsm.ss`. -/
def execPfmsmSs (dpc : BitVec 4) (d : Bool) (src1 src2 dest : Reg) (s : State) : Host.Outcome State Fault Refusal :=
  retire (.pfmsmSs dpc d src1 src2 dest) s (effPfmsmSs dpc d src1 src2 dest)

/-- `pfmsm.sd`: refused, the spec gives no effect (R327). -/
def effPfmsmSd (_dpc : BitVec 4) (_d : Bool) (_src1 _src2 _dest : Reg) (_s : State) : Eff :=
  .refuse .mixedPrecisionDual

/-- One step of `pfmsm.sd`: refused, the spec gives no effect. -/
def execPfmsmSd (dpc : BitVec 4) (d : Bool) (src1 src2 dest : Reg) (s : State) : Host.Outcome State Fault Refusal :=
  retire (.pfmsmSd dpc d src1 src2 dest) s (effPfmsmSd dpc d src1 src2 dest)

/-- `pfmsm.dd` (R327). -/
def effPfmsmDd (dpc : BitVec 4) (_d : Bool) (src1 src2 dest : Reg) (s : State) : Eff :=
  dualOperation fpSub true (dataPathM dpc) .d src1 src2 dest s

/-- One step of `pfmsm.dd`. -/
def execPfmsmDd (dpc : BitVec 4) (d : Bool) (src1 src2 dest : Reg) (s : State) : Host.Outcome State Fault Refusal :=
  retire (.pfmsmDd dpc d src1 src2 dest) s (effPfmsmDd dpc d src1 src2 dest)

end Sys2Proof.Machine
end

