-- ==== Sys2Proof/Machine/Graphics.lean ====
section
/-!
DEFINITION. Graphics-unit instructions (spec/47_graphics.md) and fxfr (R169).
-/
namespace Sys2Proof.Machine

/-- Register numbers of a graphics instruction. -/
def graphicsFits (p : Prec) (src1 src2 dest : Reg) : Bool := p.fits src1 && p.fits src2 && p.fits dest

/-- Restriction e: no source overlaps a destination other than f0 (R350, D49). -/
def graphicsSourceOk (p : Prec) (src1 src2 dest : Reg) : Bool :=
  decide (dest = 0) || !(regsOverlap p src1 p dest || regsOverlap p src2 p dest)

/-- The end of a scalar graphics instruction: the result is written, the pipeline entry becomes undefined (R350). -/
def graphicsScalar (p : Prec) (dest : Reg) (v : DWord) (s : State) : Eff :=
  .ok ({ s with gPipe := .undef }.fwrite dest p v) .seq

/-- The end of a pipelined graphics instruction, `GStep` (R350). -/
def graphicsPiped (p : Prec) (dest : Reg) (v : DWord) (s : State) : Eff :=
  match deliver s s.gPipe dest p with
  | .error r => .refuse r
  | .ok s' => .ok { s' with gPipe := .val v p } .seq

/-- The sum or difference at a width: 32 bits alone, or one 64-bit operation (R341, R342, D17). -/
def longInt (f : DWord → DWord → DWord) (p : Prec) (src1 src2 : Reg) (s : State) : DWord :=
  p.cut (f (s.fread src1 p) (s.fread src2 p))

/-- Scalar fiadd and fisub (R341, R342). -/
def longScalar (f : DWord → DWord → DWord) (p : Prec) (src1 src2 dest : Reg) (s : State) : Eff :=
  demand (graphicsFits p src1 src2 dest) .registerAlignment <|
  reportResult s <| graphicsScalar p dest (longInt f p src1 src2 s) s

/-- Pipelined fiadd and fisub (R351, R352). -/
def longPiped (f : DWord → DWord → DWord) (p : Prec) (src1 src2 dest : Reg) (s : State) : Eff :=
  demand (graphicsFits p src1 src2 dest) .registerAlignment <|
  demand (graphicsSourceOk p src1 src2 dest) .restrictionE <|
  reportResult s <| graphicsPiped p dest (longInt f p src1 src2 s) s

/-- `MergeP` for a pixel size, none for PS = 11 (R344). -/
def mergePixels (m r : DWord) (ps : BitVec 2) : Option DWord :=
  match ps with
  | 0#2 => some (((m >>> 8) &&& ~~~0xFF00FF00FF00FF00#64) ||| (r &&& 0xFF00FF00FF00FF00#64))
  | 1#2 => some (((m >>> 6) &&& ~~~0xFC00FC00FC00FC00#64) ||| (r &&& 0xFC00FC00FC00FC00#64))
  | 2#2 => some (((m >>> 8) &&& ~~~0xFF000000FF000000#64) ||| (r &&& 0xFF000000FF000000#64))
  | _ => none

/-- The MERGE update of faddz (R345). -/
def mergeZ (m r : DWord) : DWord :=
  ((m >>> 16) &&& 0x0000FFFF0000FFFF#64) ||| (r &&& 0xFFFF0000FFFF0000#64)

/-- MERGE replaced. -/
def State.setMerge (s : State) (v : DWord) : State := { s with merge := v }

/-- faddp and pfaddp: MERGE is updated from this instruction's own sum (R343, R353). -/
def addPixels (ending : Prec → Reg → DWord → State → Eff) (src1 src2 dest : Reg) (s : State) : Eff :=
  let r := s.FD src1 + s.FD src2
  match mergePixels s.merge r s.psr.ps with
  | none => .refuse .pixelSize
  | some m => ending .d dest r (s.setMerge m)

/-- faddz and pfaddz (R345, R354). -/
def addZ (ending : Prec → Reg → DWord → State → Eff) (src1 src2 dest : Reg) (s : State) : Eff :=
  let r := s.FD src1 + s.FD src2
  ending .d dest r (s.setMerge (mergeZ s.merge r))

/-- form and pform (R346, R355). -/
def orMerge (ending : Prec → Reg → DWord → State → Eff) (src1 dest : Reg) (s : State) : Eff :=
  ending .d dest (s.FD src1 ||| s.merge) (s.setMerge 0)

/-- Field `i` of width `w` (R349). -/
def zField (w i : Nat) (v : DWord) : Nat := v.toNat / 2 ^ (w * i) % 2 ^ w

/-- The smaller fields together, from field `i` up, `n` of them (R349). -/
def zMin (w : Nat) (a b : DWord) : Nat → Nat → Nat
  | _, 0 => 0
  | i, n + 1 => min (zField w i a) (zField w i b) + 2 ^ w * zMin w a b (i + 1) n

/-- The comparison bits together, from field `i` up, `n` of them (R349). -/
def zBits (w : Nat) (a b : DWord) : Nat → Nat → Nat
  | _, 0 => 0
  | i, n + 1 => (if zField w i b ≤ zField w i a then 1 else 0) + 2 * zBits w a b (i + 1) n

/-- PM after a Z check: shifted right by the number of fields, the results on top (R349). -/
def zMask (w : Nat) (pm : Byte) (a b : DWord) : Byte :=
  (pm >>> (64 / w)) ||| BitVec.ofNat 8 (zBits w a b 0 (64 / w) * 2 ^ (8 - 64 / w))

/-- A Z-buffer check with fields of width `w` (R347 to R349, R356, R357): PM and MERGE now, the result by `ending`. -/
def zCheck (ending : Prec → Reg → DWord → State → Eff) (w : Nat) (src1 src2 dest : Reg) (s : State) : Eff :=
  let a := s.FD src1
  let b := s.FD src2
  ending .d dest (BitVec.ofNat 64 (zMin w a b 0 (64 / w)))
    { s with merge := 0, psr := { s.psr with pm := zMask w s.psr.pm a b } }

/-- `fiadd.ss` (R341). -/
def effFiaddSs (_d : Bool) (src1 src2 dest : Reg) (s : State) : Eff :=
  longScalar (· + ·) .s src1 src2 dest s

/-- One step of `fiadd.ss`. -/
def execFiaddSs (d : Bool) (src1 src2 dest : Reg) (s : State) : Host.Outcome State Fault Refusal :=
  retire (.fiaddSs d src1 src2 dest) s (effFiaddSs d src1 src2 dest)

/-- `pfiadd.ss` (R351). -/
def effPfiaddSs (_d : Bool) (src1 src2 dest : Reg) (s : State) : Eff :=
  longPiped (· + ·) .s src1 src2 dest s

/-- One step of `pfiadd.ss`. -/
def execPfiaddSs (d : Bool) (src1 src2 dest : Reg) (s : State) : Host.Outcome State Fault Refusal :=
  retire (.pfiaddSs d src1 src2 dest) s (effPfiaddSs d src1 src2 dest)

/-- `fiadd.dd` (R341). -/
def effFiaddDd (_d : Bool) (src1 src2 dest : Reg) (s : State) : Eff :=
  longScalar (· + ·) .d src1 src2 dest s

/-- One step of `fiadd.dd`. -/
def execFiaddDd (d : Bool) (src1 src2 dest : Reg) (s : State) : Host.Outcome State Fault Refusal :=
  retire (.fiaddDd d src1 src2 dest) s (effFiaddDd d src1 src2 dest)

/-- `pfiadd.dd` (R351). -/
def effPfiaddDd (_d : Bool) (src1 src2 dest : Reg) (s : State) : Eff :=
  longPiped (· + ·) .d src1 src2 dest s

/-- One step of `pfiadd.dd`. -/
def execPfiaddDd (d : Bool) (src1 src2 dest : Reg) (s : State) : Host.Outcome State Fault Refusal :=
  retire (.pfiaddDd d src1 src2 dest) s (effPfiaddDd d src1 src2 dest)

/-- `fisub.ss` (R342). -/
def effFisubSs (_d : Bool) (src1 src2 dest : Reg) (s : State) : Eff :=
  longScalar (· - ·) .s src1 src2 dest s

/-- One step of `fisub.ss`. -/
def execFisubSs (d : Bool) (src1 src2 dest : Reg) (s : State) : Host.Outcome State Fault Refusal :=
  retire (.fisubSs d src1 src2 dest) s (effFisubSs d src1 src2 dest)

/-- `pfisub.ss` (R352). -/
def effPfisubSs (_d : Bool) (src1 src2 dest : Reg) (s : State) : Eff :=
  longPiped (· - ·) .s src1 src2 dest s

/-- One step of `pfisub.ss`. -/
def execPfisubSs (d : Bool) (src1 src2 dest : Reg) (s : State) : Host.Outcome State Fault Refusal :=
  retire (.pfisubSs d src1 src2 dest) s (effPfisubSs d src1 src2 dest)

/-- `fisub.dd` (R342). -/
def effFisubDd (_d : Bool) (src1 src2 dest : Reg) (s : State) : Eff :=
  longScalar (· - ·) .d src1 src2 dest s

/-- One step of `fisub.dd`. -/
def execFisubDd (d : Bool) (src1 src2 dest : Reg) (s : State) : Host.Outcome State Fault Refusal :=
  retire (.fisubDd d src1 src2 dest) s (effFisubDd d src1 src2 dest)

/-- `pfisub.dd` (R352). -/
def effPfisubDd (_d : Bool) (src1 src2 dest : Reg) (s : State) : Eff :=
  longPiped (· - ·) .d src1 src2 dest s

/-- One step of `pfisub.dd`. -/
def execPfisubDd (d : Bool) (src1 src2 dest : Reg) (s : State) : Host.Outcome State Fault Refusal :=
  retire (.pfisubDd d src1 src2 dest) s (effPfisubDd d src1 src2 dest)

/-- `faddp` (R343). -/
def effFaddp (_d : Bool) (src1 src2 dest : Reg) (s : State) : Eff :=
  demand (graphicsFits .d src1 src2 dest) .registerAlignment <|
  reportResult s <| addPixels graphicsScalar src1 src2 dest s

/-- One step of `faddp`. -/
def execFaddp (d : Bool) (src1 src2 dest : Reg) (s : State) : Host.Outcome State Fault Refusal :=
  retire (.faddp d src1 src2 dest) s (effFaddp d src1 src2 dest)

/-- `pfaddp` (R353). -/
def effPfaddp (_d : Bool) (src1 src2 dest : Reg) (s : State) : Eff :=
  demand (graphicsFits .d src1 src2 dest) .registerAlignment <|
  demand (graphicsSourceOk .d src1 src2 dest) .restrictionE <|
  reportResult s <| addPixels graphicsPiped src1 src2 dest s

/-- One step of `pfaddp`. -/
def execPfaddp (d : Bool) (src1 src2 dest : Reg) (s : State) : Host.Outcome State Fault Refusal :=
  retire (.pfaddp d src1 src2 dest) s (effPfaddp d src1 src2 dest)

/-- `faddz` (R345). -/
def effFaddz (_d : Bool) (src1 src2 dest : Reg) (s : State) : Eff :=
  demand (graphicsFits .d src1 src2 dest) .registerAlignment <|
  reportResult s <| addZ graphicsScalar src1 src2 dest s

/-- One step of `faddz`. -/
def execFaddz (d : Bool) (src1 src2 dest : Reg) (s : State) : Host.Outcome State Fault Refusal :=
  retire (.faddz d src1 src2 dest) s (effFaddz d src1 src2 dest)

/-- `pfaddz` (R354). -/
def effPfaddz (_d : Bool) (src1 src2 dest : Reg) (s : State) : Eff :=
  demand (graphicsFits .d src1 src2 dest) .registerAlignment <|
  demand (graphicsSourceOk .d src1 src2 dest) .restrictionE <|
  reportResult s <| addZ graphicsPiped src1 src2 dest s

/-- One step of `pfaddz`. -/
def execPfaddz (d : Bool) (src1 src2 dest : Reg) (s : State) : Host.Outcome State Fault Refusal :=
  retire (.pfaddz d src1 src2 dest) s (effPfaddz d src1 src2 dest)

/-- `form` (R346). -/
def effForm (_d : Bool) (src1 dest : Reg) (s : State) : Eff :=
  demand (graphicsFits .d src1 src1 dest) .registerAlignment <|
  reportResult s <| orMerge graphicsScalar src1 dest s

/-- One step of `form`. -/
def execForm (d : Bool) (src1 dest : Reg) (s : State) : Host.Outcome State Fault Refusal :=
  retire (.form d src1 dest) s (effForm d src1 dest)

/-- `pform` (R355). -/
def effPform (_d : Bool) (src1 dest : Reg) (s : State) : Eff :=
  demand (graphicsFits .d src1 src1 dest) .registerAlignment <|
  demand (graphicsSourceOk .d src1 src1 dest) .restrictionE <|
  reportResult s <| orMerge graphicsPiped src1 dest s

/-- One step of `pform`. -/
def execPform (d : Bool) (src1 dest : Reg) (s : State) : Host.Outcome State Fault Refusal :=
  retire (.pform d src1 dest) s (effPform d src1 dest)

/-- `fzchkl` (R347). -/
def effFzchkl (_d : Bool) (src1 src2 dest : Reg) (s : State) : Eff :=
  demand (graphicsFits .d src1 src2 dest) .registerAlignment <|
  reportResult s <| zCheck graphicsScalar 32 src1 src2 dest s

/-- One step of `fzchkl`. -/
def execFzchkl (d : Bool) (src1 src2 dest : Reg) (s : State) : Host.Outcome State Fault Refusal :=
  retire (.fzchkl d src1 src2 dest) s (effFzchkl d src1 src2 dest)

/-- `pfzchkl` (R356). -/
def effPfzchkl (_d : Bool) (src1 src2 dest : Reg) (s : State) : Eff :=
  demand (graphicsFits .d src1 src2 dest) .registerAlignment <|
  reportResult s <| zCheck graphicsPiped 32 src1 src2 dest s

/-- One step of `pfzchkl`. -/
def execPfzchkl (d : Bool) (src1 src2 dest : Reg) (s : State) : Host.Outcome State Fault Refusal :=
  retire (.pfzchkl d src1 src2 dest) s (effPfzchkl d src1 src2 dest)

/-- `fzchks` (R348). -/
def effFzchks (_d : Bool) (src1 src2 dest : Reg) (s : State) : Eff :=
  demand (graphicsFits .d src1 src2 dest) .registerAlignment <|
  reportResult s <| zCheck graphicsScalar 16 src1 src2 dest s

/-- One step of `fzchks`. -/
def execFzchks (d : Bool) (src1 src2 dest : Reg) (s : State) : Host.Outcome State Fault Refusal :=
  retire (.fzchks d src1 src2 dest) s (effFzchks d src1 src2 dest)

/-- `pfzchks` (R357). -/
def effPfzchks (_d : Bool) (src1 src2 dest : Reg) (s : State) : Eff :=
  demand (graphicsFits .d src1 src2 dest) .registerAlignment <|
  reportResult s <| zCheck graphicsPiped 16 src1 src2 dest s

/-- One step of `pfzchks`. -/
def execPfzchks (d : Bool) (src1 src2 dest : Reg) (s : State) : Host.Outcome State Fault Refusal :=
  retire (.pfzchks d src1 src2 dest) s (effPfzchks d src1 src2 dest)

/-- `fxfr` (R169). -/
def effFxfr (_d : Bool) (src1 dest : Reg) (s : State) : Eff :=
  reportResult s <| .ok ({ s with gPipe := .undef }.setR dest (s.FS src1)) .seq

/-- One step of `fxfr`. -/
def execFxfr (d : Bool) (src1 dest : Reg) (s : State) : Host.Outcome State Fault Refusal :=
  retire (.fxfr d src1 dest) s (effFxfr d src1 dest)

end Sys2Proof.Machine
end

