-- ==== Sys2Proof/Machine/IntArith.lean ====
section
/-!
DEFINITION. Integer addition and subtraction (spec/41_integer.md R181 to R184).
-/
namespace Sys2Proof.Machine

/-- The end of an addition or subtraction: OF and CC are written on every execution, r0 included (R181). -/
def setSum (s : State) (dest : Reg) (v : Word) (fl : SumFlags) : Eff :=
  .ok ({ s with epsr := { s.epsr with of := fl.of }, psr := { s.psr with cc := fl.cc } }.setR dest v) .seq

/-- `addu`, register form (R182). -/
def effAdduR (src1 src2 dest : Reg) (s : State) : Eff :=
  setSum s dest (s.R src1 + s.R src2) (adduFlags (s.R src1) (s.R src2))

/-- One step of `addu`, register form. -/
def execAdduR (src1 src2 dest : Reg) (s : State) : Host.Outcome State Fault Refusal :=
  retire (.adduR src1 src2 dest) s (effAdduR src1 src2 dest)

/-- `addu`, immediate form, sign-extended (R182). -/
def effAdduI (imm : BitVec 16) (src2 dest : Reg) (s : State) : Eff :=
  setSum s dest (immSigned imm + s.R src2) (adduFlags (immSigned imm) (s.R src2))

/-- One step of `addu`, immediate form, sign-extended. -/
def execAdduI (imm : BitVec 16) (src2 dest : Reg) (s : State) : Host.Outcome State Fault Refusal :=
  retire (.adduI imm src2 dest) s (effAdduI imm src2 dest)

/-- `subu`, register form (R184). -/
def effSubuR (src1 src2 dest : Reg) (s : State) : Eff :=
  setSum s dest (s.R src1 - s.R src2) (subuFlags (s.R src1) (s.R src2))

/-- One step of `subu`, register form. -/
def execSubuR (src1 src2 dest : Reg) (s : State) : Host.Outcome State Fault Refusal :=
  retire (.subuR src1 src2 dest) s (effSubuR src1 src2 dest)

/-- `subu`, immediate form, sign-extended (R184). -/
def effSubuI (imm : BitVec 16) (src2 dest : Reg) (s : State) : Eff :=
  setSum s dest (immSigned imm - s.R src2) (subuFlags (immSigned imm) (s.R src2))

/-- One step of `subu`, immediate form, sign-extended. -/
def execSubuI (imm : BitVec 16) (src2 dest : Reg) (s : State) : Host.Outcome State Fault Refusal :=
  retire (.subuI imm src2 dest) s (effSubuI imm src2 dest)

/-- `adds`, register form (R181). -/
def effAddsR (src1 src2 dest : Reg) (s : State) : Eff :=
  setSum s dest (s.R src1 + s.R src2) (addsFlags (s.R src1) (s.R src2))

/-- One step of `adds`, register form. -/
def execAddsR (src1 src2 dest : Reg) (s : State) : Host.Outcome State Fault Refusal :=
  retire (.addsR src1 src2 dest) s (effAddsR src1 src2 dest)

/-- `adds`, immediate form, sign-extended (R181). -/
def effAddsI (imm : BitVec 16) (src2 dest : Reg) (s : State) : Eff :=
  setSum s dest (immSigned imm + s.R src2) (addsFlags (immSigned imm) (s.R src2))

/-- One step of `adds`, immediate form, sign-extended. -/
def execAddsI (imm : BitVec 16) (src2 dest : Reg) (s : State) : Host.Outcome State Fault Refusal :=
  retire (.addsI imm src2 dest) s (effAddsI imm src2 dest)

/-- `subs`, register form (R183). -/
def effSubsR (src1 src2 dest : Reg) (s : State) : Eff :=
  setSum s dest (s.R src1 - s.R src2) (subsFlags (s.R src1) (s.R src2))

/-- One step of `subs`, register form. -/
def execSubsR (src1 src2 dest : Reg) (s : State) : Host.Outcome State Fault Refusal :=
  retire (.subsR src1 src2 dest) s (effSubsR src1 src2 dest)

/-- `subs`, immediate form, sign-extended (R183). -/
def effSubsI (imm : BitVec 16) (src2 dest : Reg) (s : State) : Eff :=
  setSum s dest (immSigned imm - s.R src2) (subsFlags (immSigned imm) (s.R src2))

/-- One step of `subs`, immediate form, sign-extended. -/
def execSubsI (imm : BitVec 16) (src2 dest : Reg) (s : State) : Host.Outcome State Fault Refusal :=
  retire (.subsI imm src2 dest) s (effSubsI imm src2 dest)

end Sys2Proof.Machine
end

