-- ==== Sys2Proof/Machine/IntLogic.lean ====
section
/-!
DEFINITION. Logical instructions (spec/41_integer.md R185 to R193).
-/
namespace Sys2Proof.Machine

/-- The end of a logical instruction: CC is set if the result is zero (R185). -/
def setLogical (s : State) (dest : Reg) (v : Word) : Eff :=
  .ok ({ s with psr := { s.psr with cc := zeroFlag v } }.setR dest v) .seq

/-- `and`, register form (R185). -/
def effAndR (src1 src2 dest : Reg) (s : State) : Eff :=
  setLogical s dest (s.R src1 &&& s.R src2)

/-- One step of `and`, register form. -/
def execAndR (src1 src2 dest : Reg) (s : State) : Host.Outcome State Fault Refusal :=
  retire (.andR src1 src2 dest) s (effAndR src1 src2 dest)

/-- `and`, immediate form, zero-extended (R185). -/
def effAndI (imm : BitVec 16) (src2 dest : Reg) (s : State) : Eff :=
  setLogical s dest (immZero imm &&& s.R src2)

/-- One step of `and`, immediate form, zero-extended. -/
def execAndI (imm : BitVec 16) (src2 dest : Reg) (s : State) : Host.Outcome State Fault Refusal :=
  retire (.andI imm src2 dest) s (effAndI imm src2 dest)

/-- `andh` (R186). -/
def effAndh (imm : BitVec 16) (src2 dest : Reg) (s : State) : Eff :=
  setLogical s dest (immHigh imm &&& s.R src2)

/-- One step of `andh`. -/
def execAndh (imm : BitVec 16) (src2 dest : Reg) (s : State) : Host.Outcome State Fault Refusal :=
  retire (.andh imm src2 dest) s (effAndh imm src2 dest)

/-- `andnot`, register form (R188). -/
def effAndnotR (src1 src2 dest : Reg) (s : State) : Eff :=
  setLogical s dest (~~~s.R src1 &&& s.R src2)

/-- One step of `andnot`, register form. -/
def execAndnotR (src1 src2 dest : Reg) (s : State) : Host.Outcome State Fault Refusal :=
  retire (.andnotR src1 src2 dest) s (effAndnotR src1 src2 dest)

/-- `andnot`, immediate form, zero-extended (R188). -/
def effAndnotI (imm : BitVec 16) (src2 dest : Reg) (s : State) : Eff :=
  setLogical s dest (~~~immZero imm &&& s.R src2)

/-- One step of `andnot`, immediate form, zero-extended. -/
def execAndnotI (imm : BitVec 16) (src2 dest : Reg) (s : State) : Host.Outcome State Fault Refusal :=
  retire (.andnotI imm src2 dest) s (effAndnotI imm src2 dest)

/-- `andnoth` (R187). -/
def effAndnoth (imm : BitVec 16) (src2 dest : Reg) (s : State) : Eff :=
  setLogical s dest (~~~immHigh imm &&& s.R src2)

/-- One step of `andnoth`. -/
def execAndnoth (imm : BitVec 16) (src2 dest : Reg) (s : State) : Host.Outcome State Fault Refusal :=
  retire (.andnoth imm src2 dest) s (effAndnoth imm src2 dest)

/-- `or`, register form (R189). -/
def effOrR (src1 src2 dest : Reg) (s : State) : Eff :=
  setLogical s dest (s.R src1 ||| s.R src2)

/-- One step of `or`, register form. -/
def execOrR (src1 src2 dest : Reg) (s : State) : Host.Outcome State Fault Refusal :=
  retire (.orR src1 src2 dest) s (effOrR src1 src2 dest)

/-- `or`, immediate form, zero-extended (R189). -/
def effOrI (imm : BitVec 16) (src2 dest : Reg) (s : State) : Eff :=
  setLogical s dest (immZero imm ||| s.R src2)

/-- One step of `or`, immediate form, zero-extended. -/
def execOrI (imm : BitVec 16) (src2 dest : Reg) (s : State) : Host.Outcome State Fault Refusal :=
  retire (.orI imm src2 dest) s (effOrI imm src2 dest)

/-- `orh` (R190). -/
def effOrh (imm : BitVec 16) (src2 dest : Reg) (s : State) : Eff :=
  setLogical s dest (immHigh imm ||| s.R src2)

/-- One step of `orh`. -/
def execOrh (imm : BitVec 16) (src2 dest : Reg) (s : State) : Host.Outcome State Fault Refusal :=
  retire (.orh imm src2 dest) s (effOrh imm src2 dest)

/-- `xor`, register form (R191). -/
def effXorR (src1 src2 dest : Reg) (s : State) : Eff :=
  setLogical s dest (s.R src1 ^^^ s.R src2)

/-- One step of `xor`, register form. -/
def execXorR (src1 src2 dest : Reg) (s : State) : Host.Outcome State Fault Refusal :=
  retire (.xorR src1 src2 dest) s (effXorR src1 src2 dest)

/-- `xor`, immediate form, zero-extended (R191). -/
def effXorI (imm : BitVec 16) (src2 dest : Reg) (s : State) : Eff :=
  setLogical s dest (immZero imm ^^^ s.R src2)

/-- One step of `xor`, immediate form, zero-extended. -/
def execXorI (imm : BitVec 16) (src2 dest : Reg) (s : State) : Host.Outcome State Fault Refusal :=
  retire (.xorI imm src2 dest) s (effXorI imm src2 dest)

/-- `xorh` (R193). -/
def effXorh (imm : BitVec 16) (src2 dest : Reg) (s : State) : Eff :=
  setLogical s dest (immHigh imm ^^^ s.R src2)

/-- One step of `xorh`. -/
def execXorh (imm : BitVec 16) (src2 dest : Reg) (s : State) : Host.Outcome State Fault Refusal :=
  retire (.xorh imm src2 dest) s (effXorh imm src2 dest)

end Sys2Proof.Machine
end

