-- ==== Sys2Proof/Machine/IntShift.lean ====
section
/-!
DEFINITION. Shifts (spec/41_integer.md R192 to R197).
-/
namespace Sys2Proof.Machine

/-- shr: SC receives the count, then the logical shift (R195). -/
def shiftRight (s : State) (dest : Reg) (count : BitVec 5) (v : Word) : Eff :=
  .ok ({ s with psr := { s.psr with sc := count } }.setR dest (v >>> count.toNat)) .seq

/-- The low 32 bits of `hi : lo` shifted right by SC (R197). -/
def doubleShift (hi lo : Word) (sc : BitVec 5) : Word :=
  ((hi ++ lo) >>> sc.toNat).setWidth 32

/-- `shl`, register form (R194). -/
def effShlR (src1 src2 dest : Reg) (s : State) : Eff :=
  .ok (s.setR dest (s.R src2 <<< (shiftCount (s.R src1)).toNat)) .seq

/-- One step of `shl`, register form. -/
def execShlR (src1 src2 dest : Reg) (s : State) : Host.Outcome State Fault Refusal :=
  retire (.shlR src1 src2 dest) s (effShlR src1 src2 dest)

/-- `shr`, register form (R195). -/
def effShrR (src1 src2 dest : Reg) (s : State) : Eff :=
  shiftRight s dest (shiftCount (s.R src1)) (s.R src2)

/-- One step of `shr`, register form. -/
def execShrR (src1 src2 dest : Reg) (s : State) : Host.Outcome State Fault Refusal :=
  retire (.shrR src1 src2 dest) s (effShrR src1 src2 dest)

/-- `shra`, register form (R196). -/
def effShraR (src1 src2 dest : Reg) (s : State) : Eff :=
  .ok (s.setR dest ((s.R src2).sshiftRight (shiftCount (s.R src1)).toNat)) .seq

/-- One step of `shra`, register form. -/
def execShraR (src1 src2 dest : Reg) (s : State) : Host.Outcome State Fault Refusal :=
  retire (.shraR src1 src2 dest) s (effShraR src1 src2 dest)

/-- `shl`, immediate form (R194). -/
def effShlI (imm : BitVec 16) (src2 dest : Reg) (s : State) : Eff :=
  .ok (s.setR dest (s.R src2 <<< (shiftCount (immSigned imm)).toNat)) .seq

/-- One step of `shl`, immediate form. -/
def execShlI (imm : BitVec 16) (src2 dest : Reg) (s : State) : Host.Outcome State Fault Refusal :=
  retire (.shlI imm src2 dest) s (effShlI imm src2 dest)

/-- `shr`, immediate form (R195). -/
def effShrI (imm : BitVec 16) (src2 dest : Reg) (s : State) : Eff :=
  shiftRight s dest (shiftCount (immSigned imm)) (s.R src2)

/-- One step of `shr`, immediate form. -/
def execShrI (imm : BitVec 16) (src2 dest : Reg) (s : State) : Host.Outcome State Fault Refusal :=
  retire (.shrI imm src2 dest) s (effShrI imm src2 dest)

/-- `shra`, immediate form (R196). -/
def effShraI (imm : BitVec 16) (src2 dest : Reg) (s : State) : Eff :=
  .ok (s.setR dest ((s.R src2).sshiftRight (shiftCount (immSigned imm)).toNat)) .seq

/-- One step of `shra`, immediate form. -/
def execShraI (imm : BitVec 16) (src2 dest : Reg) (s : State) : Host.Outcome State Fault Refusal :=
  retire (.shraI imm src2 dest) s (effShraI imm src2 dest)

/-- `shrd` (R197). -/
def effShrd (_d : Bool) (src1 src2 dest : Reg) (s : State) : Eff :=
  .ok (s.setR dest (doubleShift (s.R src1) (s.R src2) s.psr.sc)) .seq

/-- One step of `shrd`. -/
def execShrd (d : Bool) (src1 src2 dest : Reg) (s : State) : Host.Outcome State Fault Refusal :=
  retire (.shrd d src1 src2 dest) s (effShrd d src1 src2 dest)

end Sys2Proof.Machine
end

