-- ==== Sys2Proof/Machine/LoadStore.lean ====
section
/-!
DEFINITION. Loads, stores, pfld, pst.d, flush and ixfr (spec/40_load_store.md).
-/
namespace Sys2Proof.Machine

/-- An integer load: the value is extended and written after the access is known to be good (R150 to R153). -/
def loadInt (n : Nat) (ext : BitVec 128 → Word) (dest : Reg) (ea : Word) (s : State) : Eff :=
  checkData s ea n <| .ok ((s.loaded ea n).setR dest (ext (s.loadBits ea n))) .seq

/-- An 8-bit value sign-extended (R151, GK19). -/
def extByte (v : BitVec 128) : Word := (v.setWidth 8).signExtend 32

/-- A 16-bit value sign-extended (R152, GK19). -/
def extHalf (v : BitVec 128) : Word := (v.setWidth 16).signExtend 32

/-- A 32-bit value (R153). -/
def extWord (v : BitVec 128) : Word := v.setWidth 32

/-- A store of `n` bytes: refused where a pfld still waits for the bytes (R154 to R156, R166). -/
def storeData (n : Nat) (v : BitVec 128) (auto : Bool) (base : Reg) (ea : Word) (s : State) : Eff :=
  checkData s ea n <|
  demand (!s.pfldPending ea n) .storeToPendingPfld <|
  .ok ((s.accessed.storeBits ea n v).increment auto base ea) .seq

/-- A floating-point load: `write` puts the bits into registers (R157 to R159). -/
def loadFp (n : Nat) (write : State → BitVec 128 → State) (auto : Bool) (base : Reg) (ea : Word) (s : State) : Eff :=
  mayReportResult s fun s =>
  checkData s ea n <| .ok ((write (s.loaded ea n) (s.loadBits ea n)).increment auto base ea) .seq

/-- Restriction f: a register-indexed autoincrement names two registers (R170). -/
def indexOk (auto : Bool) (src1 src2 : Reg) : Bool := !(auto && decide (src1 = src2))

/-- The entry that leaves the load pipeline goes to `dest` with its own width; an undefined entry is a free value of
this instruction's width (R164, U7). -/
def deliverLoad (s : State) (old : LoadEntry) (dest : Reg) (p : Prec) : Except Refusal State :=
  match old with
  | .val _ v q => if q.fits dest then .ok (s.fwrite dest q v) else .error .pipePrecision
  | .undef =>
    if isFZero dest then .ok s else .ok (s.tick.fwrite dest (if p.fits dest then p else .s) s.drawn)

/-- A pipelined load (R164 to R166). -/
def pipedLoad (p : Prec) (auto : Bool) (base dest : Reg) (ea : Word) (s : State) : Eff :=
  mayReportResult s fun s =>
  checkData s ea p.bytes <|
  match deliverLoad (s.loaded ea p.bytes) s.lPipe.q3 dest p with
  | .error r => .refuse r
  | .ok s' =>
    .ok ({ s' with lPipe := s.lPipe.push (.val ea ((s.loadBits ea p.bytes).setWidth 64) p) }.increment auto base ea)
      .seq

/-- Bytes of a pixel (R38, R167). -/
def pixelBytes (ps : BitVec 2) : Option Nat :=
  match ps with
  | 0#2 => some 1
  | 1#2 => some 2
  | 2#2 => some 4
  | _ => none

/-- The pixels a pixel store writes: those whose PM bit is set (R167). -/
def enabledPixels (pm : Byte) (b : Nat) : List Nat := (List.range (8 / b)).filter fun i => pm.getLsbD i

/-- Store pixels of `b` bytes of `v`, pixel `i` at byte offset `i * b` (R167). -/
def storePixels (s : State) (ea : Word) (b : Nat) (v : BitVec 128) : List Nat → State
  | [] => s
  | i :: is => storePixels (s.storeBits (ea + BitVec.ofNat 32 (i * b)) b (v >>> (8 * b * i))) ea b v is

/-- The effect of a pixel store on memory, PM and the base (R167). DESIGN CHOICE (log entry 22): all eight bytes must be
populated, whatever PM enables. -/
def pixelStore (auto : Bool) (base dest : Reg) (ea : Word) (s : State) : Eff :=
  checkData s ea 8 <|
  match pixelBytes s.psr.ps with
  | none => .refuse .pixelSize
  | some b =>
    let pixels := enabledPixels s.psr.pm b
    demand (!pixels.any fun i => s.pfldPending (ea + BitVec.ofNat 32 (i * b)) b) .storeToPendingPfld <|
    let s' := storePixels s.accessed ea b ((s.FD dest).setWidth 128) pixels
    .ok ({ s' with psr := { s'.psr with pm := s'.psr.pm >>> (8 / b) } }.increment auto base ea) .seq

/-- The bytes of the cache block of an address (R163). -/
def cacheBlockBytes (ea : Word) : List Nat :=
  (List.range Config.cacheBlock).map fun k => ea.toNat / Config.cacheBlock * Config.cacheBlock + k

/-- `ld.b`, register index (R151). -/
def effLdbR (src1 src2 dest : Reg) (s : State) : Eff :=
  loadInt 1 extByte dest (s.R src1 + s.R src2) s

/-- One step of `ld.b`, register index. -/
def execLdbR (src1 src2 dest : Reg) (s : State) : Host.Outcome State Fault Refusal :=
  retire (.ldbR src1 src2 dest) s (effLdbR src1 src2 dest)

/-- `ld.b`, offset form (R151). -/
def effLdbI (off : BitVec 16) (src2 dest : Reg) (s : State) : Eff :=
  loadInt 1 extByte dest (immSigned off + s.R src2) s

/-- One step of `ld.b`, offset form. -/
def execLdbI (off : BitVec 16) (src2 dest : Reg) (s : State) : Host.Outcome State Fault Refusal :=
  retire (.ldbI off src2 dest) s (effLdbI off src2 dest)

/-- `ld.s`, register index (R152). -/
def effLdsR (src1 src2 dest : Reg) (s : State) : Eff :=
  loadInt 2 extHalf dest (s.R src1 + s.R src2) s

/-- One step of `ld.s`, register index. -/
def execLdsR (src1 src2 dest : Reg) (s : State) : Host.Outcome State Fault Refusal :=
  retire (.ldsR src1 src2 dest) s (effLdsR src1 src2 dest)

/-- `ld.s`, offset form (R152). -/
def effLdsI (off : BitVec 15) (src2 dest : Reg) (s : State) : Eff :=
  loadInt 2 extHalf dest (offset15 off + s.R src2) s

/-- One step of `ld.s`, offset form. -/
def execLdsI (off : BitVec 15) (src2 dest : Reg) (s : State) : Host.Outcome State Fault Refusal :=
  retire (.ldsI off src2 dest) s (effLdsI off src2 dest)

/-- `ld.l`, register index (R153). -/
def effLdlR (src1 src2 dest : Reg) (s : State) : Eff :=
  loadInt 4 extWord dest (s.R src1 + s.R src2) s

/-- One step of `ld.l`, register index. -/
def execLdlR (src1 src2 dest : Reg) (s : State) : Host.Outcome State Fault Refusal :=
  retire (.ldlR src1 src2 dest) s (effLdlR src1 src2 dest)

/-- `ld.l`, offset form (R153). -/
def effLdlI (off : BitVec 15) (src2 dest : Reg) (s : State) : Eff :=
  loadInt 4 extWord dest (offset15 off + s.R src2) s

/-- One step of `ld.l`, offset form. -/
def execLdlI (off : BitVec 15) (src2 dest : Reg) (s : State) : Host.Outcome State Fault Refusal :=
  retire (.ldlI off src2 dest) s (effLdlI off src2 dest)

/-- `st.b` (R154). -/
def effStb (src1 : Reg) (off : BitVec 16) (src2 : Reg) (s : State) : Eff :=
  storeData 1 ((s.R src1).setWidth 128) false 0 (immSigned off + s.R src2) s

/-- One step of `st.b`. -/
def execStb (src1 : Reg) (off : BitVec 16) (src2 : Reg) (s : State) : Host.Outcome State Fault Refusal :=
  retire (.stb src1 off src2) s (effStb src1 off src2)

/-- `st.s` (R155). -/
def effSts (src1 : Reg) (off : BitVec 15) (src2 : Reg) (s : State) : Eff :=
  storeData 2 ((s.R src1).setWidth 128) false 0 (offset15 off + s.R src2) s

/-- One step of `st.s`. -/
def execSts (src1 : Reg) (off : BitVec 15) (src2 : Reg) (s : State) : Host.Outcome State Fault Refusal :=
  retire (.sts src1 off src2) s (effSts src1 off src2)

/-- `st.l` (R156). -/
def effStl (src1 : Reg) (off : BitVec 15) (src2 : Reg) (s : State) : Eff :=
  storeData 4 ((s.R src1).setWidth 128) false 0 (offset15 off + s.R src2) s

/-- One step of `st.l`. -/
def execStl (src1 : Reg) (off : BitVec 15) (src2 : Reg) (s : State) : Host.Outcome State Fault Refusal :=
  retire (.stl src1 off src2) s (effStl src1 off src2)

/-- `fld.l`, register index (R157). -/
def effFldlR (auto : Bool) (src1 src2 dest : Reg) (s : State) : Eff :=
  demand (indexOk auto src1 src2) .restrictionF <|
  loadFp 4 (fun s v => s.setFS dest (v.setWidth 32)) auto src2 (s.R src1 + s.R src2) s

/-- One step of `fld.l`, register index. -/
def execFldlR (auto : Bool) (src1 src2 dest : Reg) (s : State) : Host.Outcome State Fault Refusal :=
  retire (.fldlR auto src1 src2 dest) s (effFldlR auto src1 src2 dest)

/-- `fld.l`, offset form (R157). -/
def effFldlI (auto : Bool) (off : BitVec 14) (src2 dest : Reg) (s : State) : Eff :=
  loadFp 4 (fun s v => s.setFS dest (v.setWidth 32)) auto src2 (offset14 off + s.R src2) s

/-- One step of `fld.l`, offset form. -/
def execFldlI (auto : Bool) (off : BitVec 14) (src2 dest : Reg) (s : State) : Host.Outcome State Fault Refusal :=
  retire (.fldlI auto off src2 dest) s (effFldlI auto off src2 dest)

/-- `fld.d`, register index (R158). -/
def effFlddR (auto : Bool) (src1 src2 dest : Reg) (s : State) : Eff :=
  demand (isPair dest) .registerAlignment <|
  demand (indexOk auto src1 src2) .restrictionF <|
  loadFp 8 (fun s v => s.setFD dest (v.setWidth 64)) auto src2 (s.R src1 + s.R src2) s

/-- One step of `fld.d`, register index. -/
def execFlddR (auto : Bool) (src1 src2 dest : Reg) (s : State) : Host.Outcome State Fault Refusal :=
  retire (.flddR auto src1 src2 dest) s (effFlddR auto src1 src2 dest)

/-- `fld.d`, offset form (R158). -/
def effFlddI (auto : Bool) (off : BitVec 13) (src2 dest : Reg) (s : State) : Eff :=
  demand (isPair dest) .registerAlignment <|
  loadFp 8 (fun s v => s.setFD dest (v.setWidth 64)) auto src2 (offset13 off + s.R src2) s

/-- One step of `fld.d`, offset form. -/
def execFlddI (auto : Bool) (off : BitVec 13) (src2 dest : Reg) (s : State) : Host.Outcome State Fault Refusal :=
  retire (.flddI auto off src2 dest) s (effFlddI auto off src2 dest)

/-- `fld.q`, register index (R159). -/
def effFldqR (auto : Bool) (src1 src2 dest : Reg) (s : State) : Eff :=
  demand (isQuad dest) .registerAlignment <|
  demand (indexOk auto src1 src2) .restrictionF <|
  loadFp 16 (fun s v => s.setFQ dest v) auto src2 (s.R src1 + s.R src2) s

/-- One step of `fld.q`, register index. -/
def execFldqR (auto : Bool) (src1 src2 dest : Reg) (s : State) : Host.Outcome State Fault Refusal :=
  retire (.fldqR auto src1 src2 dest) s (effFldqR auto src1 src2 dest)

/-- `fld.q`, offset form (R159). -/
def effFldqI (auto : Bool) (off : BitVec 13) (src2 dest : Reg) (s : State) : Eff :=
  demand (isQuad dest) .registerAlignment <|
  loadFp 16 (fun s v => s.setFQ dest v) auto src2 (offset13 off + s.R src2) s

/-- One step of `fld.q`, offset form. -/
def execFldqI (auto : Bool) (off : BitVec 13) (src2 dest : Reg) (s : State) : Host.Outcome State Fault Refusal :=
  retire (.fldqI auto off src2 dest) s (effFldqI auto off src2 dest)

/-- `fst.l`, register index (R160). -/
def effFstlR (auto : Bool) (src1 src2 dest : Reg) (s : State) : Eff :=
  demand (indexOk auto src1 src2) .restrictionF <|
  reportResult s <| storeData 4 ((s.FS dest).setWidth 128) auto src2 (s.R src1 + s.R src2) s

/-- One step of `fst.l`, register index. -/
def execFstlR (auto : Bool) (src1 src2 dest : Reg) (s : State) : Host.Outcome State Fault Refusal :=
  retire (.fstlR auto src1 src2 dest) s (effFstlR auto src1 src2 dest)

/-- `fst.l`, offset form (R160). -/
def effFstlI (auto : Bool) (off : BitVec 14) (src2 dest : Reg) (s : State) : Eff :=
  reportResult s <| storeData 4 ((s.FS dest).setWidth 128) auto src2 (offset14 off + s.R src2) s

/-- One step of `fst.l`, offset form. -/
def execFstlI (auto : Bool) (off : BitVec 14) (src2 dest : Reg) (s : State) : Host.Outcome State Fault Refusal :=
  retire (.fstlI auto off src2 dest) s (effFstlI auto off src2 dest)

/-- `fst.d`, register index (R161). -/
def effFstdR (auto : Bool) (src1 src2 dest : Reg) (s : State) : Eff :=
  demand (isPair dest) .registerAlignment <|
  demand (indexOk auto src1 src2) .restrictionF <|
  reportResult s <| storeData 8 ((s.FD dest).setWidth 128) auto src2 (s.R src1 + s.R src2) s

/-- One step of `fst.d`, register index. -/
def execFstdR (auto : Bool) (src1 src2 dest : Reg) (s : State) : Host.Outcome State Fault Refusal :=
  retire (.fstdR auto src1 src2 dest) s (effFstdR auto src1 src2 dest)

/-- `fst.d`, offset form (R161). -/
def effFstdI (auto : Bool) (off : BitVec 13) (src2 dest : Reg) (s : State) : Eff :=
  demand (isPair dest) .registerAlignment <|
  reportResult s <| storeData 8 ((s.FD dest).setWidth 128) auto src2 (offset13 off + s.R src2) s

/-- One step of `fst.d`, offset form. -/
def execFstdI (auto : Bool) (off : BitVec 13) (src2 dest : Reg) (s : State) : Host.Outcome State Fault Refusal :=
  retire (.fstdI auto off src2 dest) s (effFstdI auto off src2 dest)

/-- `fst.q`, register index (R162). -/
def effFstqR (auto : Bool) (src1 src2 dest : Reg) (s : State) : Eff :=
  demand (isQuad dest) .registerAlignment <|
  demand (indexOk auto src1 src2) .restrictionF <|
  reportResult s <| storeData 16 (s.FQ dest) auto src2 (s.R src1 + s.R src2) s

/-- One step of `fst.q`, register index. -/
def execFstqR (auto : Bool) (src1 src2 dest : Reg) (s : State) : Host.Outcome State Fault Refusal :=
  retire (.fstqR auto src1 src2 dest) s (effFstqR auto src1 src2 dest)

/-- `fst.q`, offset form (R162). -/
def effFstqI (auto : Bool) (off : BitVec 13) (src2 dest : Reg) (s : State) : Eff :=
  demand (isQuad dest) .registerAlignment <|
  reportResult s <| storeData 16 (s.FQ dest) auto src2 (offset13 off + s.R src2) s

/-- One step of `fst.q`, offset form. -/
def execFstqI (auto : Bool) (off : BitVec 13) (src2 dest : Reg) (s : State) : Host.Outcome State Fault Refusal :=
  retire (.fstqI auto off src2 dest) s (effFstqI auto off src2 dest)

/-- `pfld.l`, register index (R164). -/
def effPfldlR (auto : Bool) (src1 src2 dest : Reg) (s : State) : Eff :=
  demand (indexOk auto src1 src2) .restrictionF <|
  pipedLoad .s auto src2 dest (s.R src1 + s.R src2) s

/-- One step of `pfld.l`, register index. -/
def execPfldlR (auto : Bool) (src1 src2 dest : Reg) (s : State) : Host.Outcome State Fault Refusal :=
  retire (.pfldlR auto src1 src2 dest) s (effPfldlR auto src1 src2 dest)

/-- `pfld.l`, offset form (R164). -/
def effPfldlI (auto : Bool) (off : BitVec 14) (src2 dest : Reg) (s : State) : Eff :=
  pipedLoad .s auto src2 dest (offset14 off + s.R src2) s

/-- One step of `pfld.l`, offset form. -/
def execPfldlI (auto : Bool) (off : BitVec 14) (src2 dest : Reg) (s : State) : Host.Outcome State Fault Refusal :=
  retire (.pfldlI auto off src2 dest) s (effPfldlI auto off src2 dest)

/-- `pfld.d`, register index (R165). -/
def effPflddR (auto : Bool) (src1 src2 dest : Reg) (s : State) : Eff :=
  demand (indexOk auto src1 src2) .restrictionF <|
  pipedLoad .d auto src2 dest (s.R src1 + s.R src2) s

/-- One step of `pfld.d`, register index. -/
def execPflddR (auto : Bool) (src1 src2 dest : Reg) (s : State) : Host.Outcome State Fault Refusal :=
  retire (.pflddR auto src1 src2 dest) s (effPflddR auto src1 src2 dest)

/-- `pfld.d`, offset form (R165). -/
def effPflddI (auto : Bool) (off : BitVec 13) (src2 dest : Reg) (s : State) : Eff :=
  pipedLoad .d auto src2 dest (offset13 off + s.R src2) s

/-- One step of `pfld.d`, offset form. -/
def execPflddI (auto : Bool) (off : BitVec 13) (src2 dest : Reg) (s : State) : Host.Outcome State Fault Refusal :=
  retire (.pflddI auto off src2 dest) s (effPflddI auto off src2 dest)

/-- `pst.d` (R167). -/
def effPstd (auto : Bool) (off : BitVec 13) (src2 dest : Reg) (s : State) : Eff :=
  demand (isPair dest) .registerAlignment <|
  reportResult s <| pixelStore auto src2 dest (offset13 off + s.R src2) s

/-- One step of `pst.d`. -/
def execPstd (auto : Bool) (off : BitVec 13) (src2 dest : Reg) (s : State) : Host.Outcome State Fault Refusal :=
  retire (.pstd auto off src2 dest) s (effPstd auto off src2 dest)

/-- `flush`: the block becomes undefined, memory is unchanged (R163). -/
def effFlush (auto : Bool) (off : BitVec 13) (src2 : Reg) (s : State) : Eff :=
  .ok ({ s with undef := (cacheBlockBytes (offset13 off + s.R src2)).foldr insertRising s.undef }.increment auto src2
    (offset13 off + s.R src2)) .seq

/-- One step of `flush`: the block becomes undefined, memory is unchanged. -/
def execFlush (auto : Bool) (off : BitVec 13) (src2 : Reg) (s : State) : Host.Outcome State Fault Refusal :=
  retire (.flush auto off src2) s (effFlush auto off src2)

/-- `ixfr` (R168). -/
def effIxfr (src1 dest : Reg) (s : State) : Eff :=
  mayReportResult s fun s => .ok (s.setFS dest (s.R src1)) .seq

/-- One step of `ixfr`. -/
def execIxfr (src1 dest : Reg) (s : State) : Host.Outcome State Fault Refusal :=
  retire (.ixfr src1 dest) s (effIxfr src1 dest)

end Sys2Proof.Machine
end

