-- ==== Sys2Proof/Machine/Pseudo.lean ====
section
/-!
DEFINITION. Pseudo-operations of the assembler (spec/30_encoding.md R142): each means what its expansion means.
-/
namespace Sys2Proof.Machine

/-- `mov`: copies the register, no flag is written (R198). -/
def effMov (src2 dest : Reg) (s : State) : Eff :=
  .ok (s.setR dest (s.R src2)) .seq

/-- One step of `mov`: copies the register, no flag is written. -/
def execMov (src2 dest : Reg) (s : State) : Host.Outcome State Fault Refusal :=
  retire (.mov src2 dest) s (effMov src2 dest)

/-- `nop` (R199). -/
def effNop (s : State) : Eff :=
  .ok s .seq

/-- One step of `nop`. -/
def execNop (s : State) : Host.Outcome State Fault Refusal :=
  retire (.nop) s (effNop)

/-- `fnop` (R200). -/
def effFnop (_d : Bool) (s : State) : Eff :=
  .ok s .seq

/-- One step of `fnop`. -/
def execFnop (d : Bool) (s : State) : Host.Outcome State Fault Refusal :=
  retire (.fnop d) s (effFnop d)

/-- `fmov.ss`: the integer sum with f0 (R273). -/
def effFmovSs (_d : Bool) (src1 dest : Reg) (s : State) : Eff :=
  longScalar (· + ·) .s src1 0 dest s

/-- One step of `fmov.ss`: the integer sum with f0. -/
def execFmovSs (d : Bool) (src1 dest : Reg) (s : State) : Host.Outcome State Fault Refusal :=
  retire (.fmovSs d src1 dest) s (effFmovSs d src1 dest)

/-- `fmov.dd`: the integer sum with f0 (R273). -/
def effFmovDd (_d : Bool) (src1 dest : Reg) (s : State) : Eff :=
  longScalar (· + ·) .d src1 0 dest s

/-- One step of `fmov.dd`: the integer sum with f0. -/
def execFmovDd (d : Bool) (src1 dest : Reg) (s : State) : Host.Outcome State Fault Refusal :=
  retire (.fmovDd d src1 dest) s (effFmovDd d src1 dest)

/-- `fmov.sd`: the adder move (R273). -/
def effFmovSd (_d : Bool) (src1 dest : Reg) (s : State) : Eff :=
  scalarMove .s .d src1 dest s

/-- One step of `fmov.sd`: the adder move. -/
def execFmovSd (d : Bool) (src1 dest : Reg) (s : State) : Host.Outcome State Fault Refusal :=
  retire (.fmovSd d src1 dest) s (effFmovSd d src1 dest)

/-- `fmov.ds`: the adder move (R273). -/
def effFmovDs (_d : Bool) (src1 dest : Reg) (s : State) : Eff :=
  scalarMove .d .s src1 dest s

/-- One step of `fmov.ds`: the adder move. -/
def execFmovDs (d : Bool) (src1 dest : Reg) (s : State) : Host.Outcome State Fault Refusal :=
  retire (.fmovDs d src1 dest) s (effFmovDs d src1 dest)

/-- `pfmov.ss`: the integer sum with f0 (R304). -/
def effPfmovSs (_d : Bool) (src1 dest : Reg) (s : State) : Eff :=
  longPiped (· + ·) .s src1 0 dest s

/-- One step of `pfmov.ss`: the integer sum with f0. -/
def execPfmovSs (d : Bool) (src1 dest : Reg) (s : State) : Host.Outcome State Fault Refusal :=
  retire (.pfmovSs d src1 dest) s (effPfmovSs d src1 dest)

/-- `pfmov.dd`: the integer sum with f0 (R304). -/
def effPfmovDd (_d : Bool) (src1 dest : Reg) (s : State) : Eff :=
  longPiped (· + ·) .d src1 0 dest s

/-- One step of `pfmov.dd`: the integer sum with f0. -/
def execPfmovDd (d : Bool) (src1 dest : Reg) (s : State) : Host.Outcome State Fault Refusal :=
  retire (.pfmovDd d src1 dest) s (effPfmovDd d src1 dest)

/-- `pfmov.sd`: the adder move (R304). -/
def effPfmovSd (_d : Bool) (src1 dest : Reg) (s : State) : Eff :=
  pipedMove .s .d src1 dest s

/-- One step of `pfmov.sd`: the adder move. -/
def execPfmovSd (d : Bool) (src1 dest : Reg) (s : State) : Host.Outcome State Fault Refusal :=
  retire (.pfmovSd d src1 dest) s (effPfmovSd d src1 dest)

/-- `pfmov.ds`: the adder move (R304). -/
def effPfmovDs (_d : Bool) (src1 dest : Reg) (s : State) : Eff :=
  pipedMove .d .s src1 dest s

/-- One step of `pfmov.ds`: the adder move. -/
def execPfmovDs (d : Bool) (src1 dest : Reg) (s : State) : Host.Outcome State Fault Refusal :=
  retire (.pfmovDs d src1 dest) s (effPfmovDs d src1 dest)

end Sys2Proof.Machine
end

