-- ==== Sys2Proof/Machine/System.lean ====
section
/-!
DEFINITION. Control registers, software traps and the bus lock (spec/43_system.md).
-/
namespace Sys2Proof.Machine

/-- What reading a control register does to the state: the first read of fir after a trap clears the latch (R421);
reading fsr or epsr draws a free value (R241, R408). -/
def State.afterReadC (s : State) : CReg → State
  | .fir => { s with firLatched := none }
  | .psr => s
  | .dirbase => s
  | .db => s
  | .fsr => s.tick
  | .epsr => s.tick

/-- st.c to psr: everything but bit 16 in supervisor mode, CC, LCC, SC, PS and PM in user mode (R243). Setting BR or BW
is refused (R430). -/
def writePsr (v : Word) (s : State) : Eff :=
  if s.psr.u then .ok { s with psr := s.psr.writeUser v } .seq
  else demand (!v.getLsbD 0 && !v.getLsbD 1) .dataBreakpoint <|
    .ok { s with psr := s.psr.writeSupervisor v } .seq

/-- st.c to dirbase: ATE and ITI are refused, and a user-mode write has no effect (R243). DESIGN CHOICE (log entry 21):
st.c that sets BL begins no locked sequence of the bus, so `busLock` stays as it is. -/
def writeDirbase (v : Word) (s : State) : Eff :=
  if s.psr.u then .ok s .seq
  else demand (!v.getLsbD 0 && !v.getLsbD 5) .addressTranslation <|
    .ok { s with dirbase := Dirbase.ofWord v } .seq

/-- st.c to epsr: BE is refused, and a user-mode write has no effect (R243). -/
def writeEpsr (v : Word) (s : State) : Eff :=
  if s.psr.u then .ok s .seq
  else demand (!v.getLsbD 23) .bigEndian <| .ok { s with epsr := s.epsr.write v } .seq

/-- st.c by control register (R243). -/
def writeC (c : CReg) (v : Word) (s : State) : Eff :=
  match c with
  | .fir => .ok s .seq
  | .psr => writePsr v s
  | .dirbase => writeDirbase v s
  | .db => if s.psr.u then .ok s .seq else .ok { s with db := v } .seq
  | .fsr => .ok { s with fsr := v } .seq
  | .epsr => writeEpsr v s

/-- `ld.c` (R241). -/
def effLdc (csrc : CReg) (dest : Reg) (s : State) : Eff :=
  .ok ((s.afterReadC csrc).setR dest (s.readC csrc)) .seq

/-- One step of `ld.c`. -/
def execLdc (csrc : CReg) (dest : Reg) (s : State) : Host.Outcome State Fault Refusal :=
  retire (.ldc csrc dest) s (effLdc csrc dest)

/-- `st.c` (R243). -/
def effStc (src1 : Reg) (csrc : CReg) (s : State) : Eff :=
  writeC csrc (s.R src1) s

/-- One step of `st.c`. -/
def execStc (src1 : Reg) (csrc : CReg) (s : State) : Host.Outcome State Fault Refusal :=
  retire (.stc src1 csrc) s (effStc src1 csrc)

/-- `trap` (R244). -/
def effTrap (_src1 _src2 _dest : Reg) (s : State) : Eff :=
  notInSlot s <| .trap .it s

/-- One step of `trap`. -/
def execTrap (src1 src2 dest : Reg) (s : State) : Host.Outcome State Fault Refusal :=
  retire (.trap src1 src2 dest) s (effTrap src1 src2 dest)

/-- `intovr` (R248). -/
def effIntovr (s : State) : Eff :=
  notInSlot s <| if s.epsr.of then .trap .it s else .ok s .seq

/-- One step of `intovr`. -/
def execIntovr (s : State) : Host.Outcome State Fault Refusal :=
  retire (.intovr) s (effIntovr)

/-- `lock` (R245). -/
def effLock (s : State) : Eff :=
  .ok { s with dirbase := { s.dirbase with bl := true }, busLock := true } .seq

/-- One step of `lock`. -/
def execLock (s : State) : Host.Outcome State Fault Refusal :=
  retire (.lock) s (effLock)

/-- `unlock` (R246). -/
def effUnlock (s : State) : Eff :=
  .ok { s with dirbase := { s.dirbase with bl := false } } .seq

/-- One step of `unlock`. -/
def execUnlock (s : State) : Host.Outcome State Fault Refusal :=
  retire (.unlock) s (effUnlock)

end Sys2Proof.Machine
end

