-- ==== Sys2Proof/Machine/Dispatch.lean ====
section
/-!
DEFINITION. One arm per instruction.
-/
namespace Sys2Proof.Machine

def exec (i : Instr) (s : State) : Host.Outcome State Fault Refusal :=
  match i with
  | .ldbR src1 src2 dest => Sys2Proof.Machine.execLdbR src1 src2 dest s
  | .ldbI off src2 dest => Sys2Proof.Machine.execLdbI off src2 dest s
  | .ldsR src1 src2 dest => Sys2Proof.Machine.execLdsR src1 src2 dest s
  | .ldsI off src2 dest => Sys2Proof.Machine.execLdsI off src2 dest s
  | .ldlR src1 src2 dest => Sys2Proof.Machine.execLdlR src1 src2 dest s
  | .ldlI off src2 dest => Sys2Proof.Machine.execLdlI off src2 dest s
  | .ixfr src1 dest => Sys2Proof.Machine.execIxfr src1 dest s
  | .stb src1 off src2 => Sys2Proof.Machine.execStb src1 off src2 s
  | .sts src1 off src2 => Sys2Proof.Machine.execSts src1 off src2 s
  | .stl src1 off src2 => Sys2Proof.Machine.execStl src1 off src2 s
  | .fldlR auto src1 src2 dest => Sys2Proof.Machine.execFldlR auto src1 src2 dest s
  | .fldlI auto off src2 dest => Sys2Proof.Machine.execFldlI auto off src2 dest s
  | .flddR auto src1 src2 dest => Sys2Proof.Machine.execFlddR auto src1 src2 dest s
  | .flddI auto off src2 dest => Sys2Proof.Machine.execFlddI auto off src2 dest s
  | .fldqR auto src1 src2 dest => Sys2Proof.Machine.execFldqR auto src1 src2 dest s
  | .fldqI auto off src2 dest => Sys2Proof.Machine.execFldqI auto off src2 dest s
  | .fstlR auto src1 src2 dest => Sys2Proof.Machine.execFstlR auto src1 src2 dest s
  | .fstlI auto off src2 dest => Sys2Proof.Machine.execFstlI auto off src2 dest s
  | .fstdR auto src1 src2 dest => Sys2Proof.Machine.execFstdR auto src1 src2 dest s
  | .fstdI auto off src2 dest => Sys2Proof.Machine.execFstdI auto off src2 dest s
  | .fstqR auto src1 src2 dest => Sys2Proof.Machine.execFstqR auto src1 src2 dest s
  | .fstqI auto off src2 dest => Sys2Proof.Machine.execFstqI auto off src2 dest s
  | .pfldlR auto src1 src2 dest => Sys2Proof.Machine.execPfldlR auto src1 src2 dest s
  | .pfldlI auto off src2 dest => Sys2Proof.Machine.execPfldlI auto off src2 dest s
  | .pflddR auto src1 src2 dest => Sys2Proof.Machine.execPflddR auto src1 src2 dest s
  | .pflddI auto off src2 dest => Sys2Proof.Machine.execPflddI auto off src2 dest s
  | .ldc csrc dest => Sys2Proof.Machine.execLdc csrc dest s
  | .flush auto off src2 => Sys2Proof.Machine.execFlush auto off src2 s
  | .stc src1 csrc => Sys2Proof.Machine.execStc src1 csrc s
  | .pstd auto off src2 dest => Sys2Proof.Machine.execPstd auto off src2 dest s
  | .bri src1 => Sys2Proof.Machine.execBri src1 s
  | .trap src1 src2 dest => Sys2Proof.Machine.execTrap src1 src2 dest s
  | .lock => Sys2Proof.Machine.execLock s
  | .calli src1 => Sys2Proof.Machine.execCalli src1 s
  | .intovr => Sys2Proof.Machine.execIntovr s
  | .unlock => Sys2Proof.Machine.execUnlock s
  | .btneR src1 src2 off => Sys2Proof.Machine.execBtneR src1 src2 off s
  | .btneI imm src2 off => Sys2Proof.Machine.execBtneI imm src2 off s
  | .bteR src1 src2 off => Sys2Proof.Machine.execBteR src1 src2 off s
  | .bteI imm src2 off => Sys2Proof.Machine.execBteI imm src2 off s
  | .br off => Sys2Proof.Machine.execBr off s
  | .call off => Sys2Proof.Machine.execCall off s
  | .bc off => Sys2Proof.Machine.execBc off s
  | .bcT off => Sys2Proof.Machine.execBcT off s
  | .bnc off => Sys2Proof.Machine.execBnc off s
  | .bncT off => Sys2Proof.Machine.execBncT off s
  | .adduR src1 src2 dest => Sys2Proof.Machine.execAdduR src1 src2 dest s
  | .adduI imm src2 dest => Sys2Proof.Machine.execAdduI imm src2 dest s
  | .subuR src1 src2 dest => Sys2Proof.Machine.execSubuR src1 src2 dest s
  | .subuI imm src2 dest => Sys2Proof.Machine.execSubuI imm src2 dest s
  | .addsR src1 src2 dest => Sys2Proof.Machine.execAddsR src1 src2 dest s
  | .addsI imm src2 dest => Sys2Proof.Machine.execAddsI imm src2 dest s
  | .subsR src1 src2 dest => Sys2Proof.Machine.execSubsR src1 src2 dest s
  | .subsI imm src2 dest => Sys2Proof.Machine.execSubsI imm src2 dest s
  | .shlR src1 src2 dest => Sys2Proof.Machine.execShlR src1 src2 dest s
  | .shlI imm src2 dest => Sys2Proof.Machine.execShlI imm src2 dest s
  | .shrR src1 src2 dest => Sys2Proof.Machine.execShrR src1 src2 dest s
  | .shrI imm src2 dest => Sys2Proof.Machine.execShrI imm src2 dest s
  | .shrd d src1 src2 dest => Sys2Proof.Machine.execShrd d src1 src2 dest s
  | .bla src1 src2 off => Sys2Proof.Machine.execBla src1 src2 off s
  | .shraR src1 src2 dest => Sys2Proof.Machine.execShraR src1 src2 dest s
  | .shraI imm src2 dest => Sys2Proof.Machine.execShraI imm src2 dest s
  | .andR src1 src2 dest => Sys2Proof.Machine.execAndR src1 src2 dest s
  | .andI imm src2 dest => Sys2Proof.Machine.execAndI imm src2 dest s
  | .andh imm src2 dest => Sys2Proof.Machine.execAndh imm src2 dest s
  | .andnotR src1 src2 dest => Sys2Proof.Machine.execAndnotR src1 src2 dest s
  | .andnotI imm src2 dest => Sys2Proof.Machine.execAndnotI imm src2 dest s
  | .andnoth imm src2 dest => Sys2Proof.Machine.execAndnoth imm src2 dest s
  | .orR src1 src2 dest => Sys2Proof.Machine.execOrR src1 src2 dest s
  | .orI imm src2 dest => Sys2Proof.Machine.execOrI imm src2 dest s
  | .orh imm src2 dest => Sys2Proof.Machine.execOrh imm src2 dest s
  | .xorR src1 src2 dest => Sys2Proof.Machine.execXorR src1 src2 dest s
  | .xorI imm src2 dest => Sys2Proof.Machine.execXorI imm src2 dest s
  | .xorh imm src2 dest => Sys2Proof.Machine.execXorh imm src2 dest s
  | .pfamSs dpc d src1 src2 dest => Sys2Proof.Machine.execPfamSs dpc d src1 src2 dest s
  | .pfamSd dpc d src1 src2 dest => Sys2Proof.Machine.execPfamSd dpc d src1 src2 dest s
  | .pfamDd dpc d src1 src2 dest => Sys2Proof.Machine.execPfamDd dpc d src1 src2 dest s
  | .pfmamSs dpc d src1 src2 dest => Sys2Proof.Machine.execPfmamSs dpc d src1 src2 dest s
  | .pfmamSd dpc d src1 src2 dest => Sys2Proof.Machine.execPfmamSd dpc d src1 src2 dest s
  | .pfmamDd dpc d src1 src2 dest => Sys2Proof.Machine.execPfmamDd dpc d src1 src2 dest s
  | .pfsmSs dpc d src1 src2 dest => Sys2Proof.Machine.execPfsmSs dpc d src1 src2 dest s
  | .pfsmSd dpc d src1 src2 dest => Sys2Proof.Machine.execPfsmSd dpc d src1 src2 dest s
  | .pfsmDd dpc d src1 src2 dest => Sys2Proof.Machine.execPfsmDd dpc d src1 src2 dest s
  | .pfmsmSs dpc d src1 src2 dest => Sys2Proof.Machine.execPfmsmSs dpc d src1 src2 dest s
  | .pfmsmSd dpc d src1 src2 dest => Sys2Proof.Machine.execPfmsmSd dpc d src1 src2 dest s
  | .pfmsmDd dpc d src1 src2 dest => Sys2Proof.Machine.execPfmsmDd dpc d src1 src2 dest s
  | .fmulSs d src1 src2 dest => Sys2Proof.Machine.execFmulSs d src1 src2 dest s
  | .fmulSd d src1 src2 dest => Sys2Proof.Machine.execFmulSd d src1 src2 dest s
  | .fmulDd d src1 src2 dest => Sys2Proof.Machine.execFmulDd d src1 src2 dest s
  | .pfmulSs d src1 src2 dest => Sys2Proof.Machine.execPfmulSs d src1 src2 dest s
  | .pfmulSd d src1 src2 dest => Sys2Proof.Machine.execPfmulSd d src1 src2 dest s
  | .pfmulDd d src1 src2 dest => Sys2Proof.Machine.execPfmulDd d src1 src2 dest s
  | .fmlowDd d src1 src2 dest => Sys2Proof.Machine.execFmlowDd d src1 src2 dest s
  | .frcpSs d src2 dest => Sys2Proof.Machine.execFrcpSs d src2 dest s
  | .frcpSd d src2 dest => Sys2Proof.Machine.execFrcpSd d src2 dest s
  | .frcpDd d src2 dest => Sys2Proof.Machine.execFrcpDd d src2 dest s
  | .frsqrSs d src2 dest => Sys2Proof.Machine.execFrsqrSs d src2 dest s
  | .frsqrSd d src2 dest => Sys2Proof.Machine.execFrsqrSd d src2 dest s
  | .frsqrDd d src2 dest => Sys2Proof.Machine.execFrsqrDd d src2 dest s
  | .pfmul3Dd d src1 src2 dest => Sys2Proof.Machine.execPfmul3Dd d src1 src2 dest s
  | .faddSs d src1 src2 dest => Sys2Proof.Machine.execFaddSs d src1 src2 dest s
  | .faddSd d src1 src2 dest => Sys2Proof.Machine.execFaddSd d src1 src2 dest s
  | .faddDd d src1 src2 dest => Sys2Proof.Machine.execFaddDd d src1 src2 dest s
  | .pfaddSs d src1 src2 dest => Sys2Proof.Machine.execPfaddSs d src1 src2 dest s
  | .pfaddSd d src1 src2 dest => Sys2Proof.Machine.execPfaddSd d src1 src2 dest s
  | .pfaddDd d src1 src2 dest => Sys2Proof.Machine.execPfaddDd d src1 src2 dest s
  | .fsubSs d src1 src2 dest => Sys2Proof.Machine.execFsubSs d src1 src2 dest s
  | .fsubSd d src1 src2 dest => Sys2Proof.Machine.execFsubSd d src1 src2 dest s
  | .fsubDd d src1 src2 dest => Sys2Proof.Machine.execFsubDd d src1 src2 dest s
  | .pfsubSs d src1 src2 dest => Sys2Proof.Machine.execPfsubSs d src1 src2 dest s
  | .pfsubSd d src1 src2 dest => Sys2Proof.Machine.execPfsubSd d src1 src2 dest s
  | .pfsubDd d src1 src2 dest => Sys2Proof.Machine.execPfsubDd d src1 src2 dest s
  | .fixSs d src1 dest => Sys2Proof.Machine.execFixSs d src1 dest s
  | .fixSd d src1 dest => Sys2Proof.Machine.execFixSd d src1 dest s
  | .fixDd d src1 dest => Sys2Proof.Machine.execFixDd d src1 dest s
  | .pfixSs d src1 dest => Sys2Proof.Machine.execPfixSs d src1 dest s
  | .pfixSd d src1 dest => Sys2Proof.Machine.execPfixSd d src1 dest s
  | .pfixDd d src1 dest => Sys2Proof.Machine.execPfixDd d src1 dest s
  | .famovSs d src1 dest => Sys2Proof.Machine.execFamovSs d src1 dest s
  | .famovSd d src1 dest => Sys2Proof.Machine.execFamovSd d src1 dest s
  | .famovDs d src1 dest => Sys2Proof.Machine.execFamovDs d src1 dest s
  | .famovDd d src1 dest => Sys2Proof.Machine.execFamovDd d src1 dest s
  | .pfamovSs d src1 dest => Sys2Proof.Machine.execPfamovSs d src1 dest s
  | .pfamovSd d src1 dest => Sys2Proof.Machine.execPfamovSd d src1 dest s
  | .pfamovDs d src1 dest => Sys2Proof.Machine.execPfamovDs d src1 dest s
  | .pfamovDd d src1 dest => Sys2Proof.Machine.execPfamovDd d src1 dest s
  | .pfgtSs d src1 src2 dest => Sys2Proof.Machine.execPfgtSs d src1 src2 dest s
  | .pfgtDd d src1 src2 dest => Sys2Proof.Machine.execPfgtDd d src1 src2 dest s
  | .pfleSs d src1 src2 dest => Sys2Proof.Machine.execPfleSs d src1 src2 dest s
  | .pfleDd d src1 src2 dest => Sys2Proof.Machine.execPfleDd d src1 src2 dest s
  | .pfeqSs d src1 src2 dest => Sys2Proof.Machine.execPfeqSs d src1 src2 dest s
  | .pfeqDd d src1 src2 dest => Sys2Proof.Machine.execPfeqDd d src1 src2 dest s
  | .ftruncSs d src1 dest => Sys2Proof.Machine.execFtruncSs d src1 dest s
  | .ftruncSd d src1 dest => Sys2Proof.Machine.execFtruncSd d src1 dest s
  | .ftruncDd d src1 dest => Sys2Proof.Machine.execFtruncDd d src1 dest s
  | .pftruncSs d src1 dest => Sys2Proof.Machine.execPftruncSs d src1 dest s
  | .pftruncSd d src1 dest => Sys2Proof.Machine.execPftruncSd d src1 dest s
  | .pftruncDd d src1 dest => Sys2Proof.Machine.execPftruncDd d src1 dest s
  | .fxfr d src1 dest => Sys2Proof.Machine.execFxfr d src1 dest s
  | .fiaddSs d src1 src2 dest => Sys2Proof.Machine.execFiaddSs d src1 src2 dest s
  | .fiaddDd d src1 src2 dest => Sys2Proof.Machine.execFiaddDd d src1 src2 dest s
  | .pfiaddSs d src1 src2 dest => Sys2Proof.Machine.execPfiaddSs d src1 src2 dest s
  | .pfiaddDd d src1 src2 dest => Sys2Proof.Machine.execPfiaddDd d src1 src2 dest s
  | .fisubSs d src1 src2 dest => Sys2Proof.Machine.execFisubSs d src1 src2 dest s
  | .fisubDd d src1 src2 dest => Sys2Proof.Machine.execFisubDd d src1 src2 dest s
  | .pfisubSs d src1 src2 dest => Sys2Proof.Machine.execPfisubSs d src1 src2 dest s
  | .pfisubDd d src1 src2 dest => Sys2Proof.Machine.execPfisubDd d src1 src2 dest s
  | .faddp d src1 src2 dest => Sys2Proof.Machine.execFaddp d src1 src2 dest s
  | .pfaddp d src1 src2 dest => Sys2Proof.Machine.execPfaddp d src1 src2 dest s
  | .faddz d src1 src2 dest => Sys2Proof.Machine.execFaddz d src1 src2 dest s
  | .pfaddz d src1 src2 dest => Sys2Proof.Machine.execPfaddz d src1 src2 dest s
  | .fzchkl d src1 src2 dest => Sys2Proof.Machine.execFzchkl d src1 src2 dest s
  | .pfzchkl d src1 src2 dest => Sys2Proof.Machine.execPfzchkl d src1 src2 dest s
  | .form d src1 dest => Sys2Proof.Machine.execForm d src1 dest s
  | .pform d src1 dest => Sys2Proof.Machine.execPform d src1 dest s
  | .fzchks d src1 src2 dest => Sys2Proof.Machine.execFzchks d src1 src2 dest s
  | .pfzchks d src1 src2 dest => Sys2Proof.Machine.execPfzchks d src1 src2 dest s
  | .mov src2 dest => Sys2Proof.Machine.execMov src2 dest s
  | .nop => Sys2Proof.Machine.execNop s
  | .fnop d => Sys2Proof.Machine.execFnop d s
  | .fmovSs d src1 dest => Sys2Proof.Machine.execFmovSs d src1 dest s
  | .fmovDd d src1 dest => Sys2Proof.Machine.execFmovDd d src1 dest s
  | .fmovSd d src1 dest => Sys2Proof.Machine.execFmovSd d src1 dest s
  | .fmovDs d src1 dest => Sys2Proof.Machine.execFmovDs d src1 dest s
  | .pfmovSs d src1 dest => Sys2Proof.Machine.execPfmovSs d src1 dest s
  | .pfmovDd d src1 dest => Sys2Proof.Machine.execPfmovDd d src1 dest s
  | .pfmovSd d src1 dest => Sys2Proof.Machine.execPfmovSd d src1 dest s
  | .pfmovDs d src1 dest => Sys2Proof.Machine.execPfmovDs d src1 dest s

end Sys2Proof.Machine
end

