-- ==== Sys2Proof/Machine/Effect.lean ====
section
/-!
DEFINITION. The effect of every instruction, which the two halves of a pair need apart from the end of the step (R384).
-/
namespace Sys2Proof.Machine

/-- What an instruction does before the step ends. -/
def effect : Instr → State → Eff
  | .ldbR src1 src2 dest, s => effLdbR src1 src2 dest s
  | .ldbI off src2 dest, s => effLdbI off src2 dest s
  | .ldsR src1 src2 dest, s => effLdsR src1 src2 dest s
  | .ldsI off src2 dest, s => effLdsI off src2 dest s
  | .ldlR src1 src2 dest, s => effLdlR src1 src2 dest s
  | .ldlI off src2 dest, s => effLdlI off src2 dest s
  | .ixfr src1 dest, s => effIxfr src1 dest s
  | .stb src1 off src2, s => effStb src1 off src2 s
  | .sts src1 off src2, s => effSts src1 off src2 s
  | .stl src1 off src2, s => effStl src1 off src2 s
  | .fldlR auto src1 src2 dest, s => effFldlR auto src1 src2 dest s
  | .fldlI auto off src2 dest, s => effFldlI auto off src2 dest s
  | .flddR auto src1 src2 dest, s => effFlddR auto src1 src2 dest s
  | .flddI auto off src2 dest, s => effFlddI auto off src2 dest s
  | .fldqR auto src1 src2 dest, s => effFldqR auto src1 src2 dest s
  | .fldqI auto off src2 dest, s => effFldqI auto off src2 dest s
  | .fstlR auto src1 src2 dest, s => effFstlR auto src1 src2 dest s
  | .fstlI auto off src2 dest, s => effFstlI auto off src2 dest s
  | .fstdR auto src1 src2 dest, s => effFstdR auto src1 src2 dest s
  | .fstdI auto off src2 dest, s => effFstdI auto off src2 dest s
  | .fstqR auto src1 src2 dest, s => effFstqR auto src1 src2 dest s
  | .fstqI auto off src2 dest, s => effFstqI auto off src2 dest s
  | .pfldlR auto src1 src2 dest, s => effPfldlR auto src1 src2 dest s
  | .pfldlI auto off src2 dest, s => effPfldlI auto off src2 dest s
  | .pflddR auto src1 src2 dest, s => effPflddR auto src1 src2 dest s
  | .pflddI auto off src2 dest, s => effPflddI auto off src2 dest s
  | .ldc csrc dest, s => effLdc csrc dest s
  | .flush auto off src2, s => effFlush auto off src2 s
  | .stc src1 csrc, s => effStc src1 csrc s
  | .pstd auto off src2 dest, s => effPstd auto off src2 dest s
  | .bri src1, s => effBri src1 s
  | .trap src1 src2 dest, s => effTrap src1 src2 dest s
  | .lock, s => effLock s
  | .calli src1, s => effCalli src1 s
  | .intovr, s => effIntovr s
  | .unlock, s => effUnlock s
  | .btneR src1 src2 off, s => effBtneR src1 src2 off s
  | .btneI imm src2 off, s => effBtneI imm src2 off s
  | .bteR src1 src2 off, s => effBteR src1 src2 off s
  | .bteI imm src2 off, s => effBteI imm src2 off s
  | .br off, s => effBr off s
  | .call off, s => effCall off s
  | .bc off, s => effBc off s
  | .bcT off, s => effBcT off s
  | .bnc off, s => effBnc off s
  | .bncT off, s => effBncT off s
  | .adduR src1 src2 dest, s => effAdduR src1 src2 dest s
  | .adduI imm src2 dest, s => effAdduI imm src2 dest s
  | .subuR src1 src2 dest, s => effSubuR src1 src2 dest s
  | .subuI imm src2 dest, s => effSubuI imm src2 dest s
  | .addsR src1 src2 dest, s => effAddsR src1 src2 dest s
  | .addsI imm src2 dest, s => effAddsI imm src2 dest s
  | .subsR src1 src2 dest, s => effSubsR src1 src2 dest s
  | .subsI imm src2 dest, s => effSubsI imm src2 dest s
  | .shlR src1 src2 dest, s => effShlR src1 src2 dest s
  | .shlI imm src2 dest, s => effShlI imm src2 dest s
  | .shrR src1 src2 dest, s => effShrR src1 src2 dest s
  | .shrI imm src2 dest, s => effShrI imm src2 dest s
  | .shrd d src1 src2 dest, s => effShrd d src1 src2 dest s
  | .bla src1 src2 off, s => effBla src1 src2 off s
  | .shraR src1 src2 dest, s => effShraR src1 src2 dest s
  | .shraI imm src2 dest, s => effShraI imm src2 dest s
  | .andR src1 src2 dest, s => effAndR src1 src2 dest s
  | .andI imm src2 dest, s => effAndI imm src2 dest s
  | .andh imm src2 dest, s => effAndh imm src2 dest s
  | .andnotR src1 src2 dest, s => effAndnotR src1 src2 dest s
  | .andnotI imm src2 dest, s => effAndnotI imm src2 dest s
  | .andnoth imm src2 dest, s => effAndnoth imm src2 dest s
  | .orR src1 src2 dest, s => effOrR src1 src2 dest s
  | .orI imm src2 dest, s => effOrI imm src2 dest s
  | .orh imm src2 dest, s => effOrh imm src2 dest s
  | .xorR src1 src2 dest, s => effXorR src1 src2 dest s
  | .xorI imm src2 dest, s => effXorI imm src2 dest s
  | .xorh imm src2 dest, s => effXorh imm src2 dest s
  | .pfamSs dpc d src1 src2 dest, s => effPfamSs dpc d src1 src2 dest s
  | .pfamSd dpc d src1 src2 dest, s => effPfamSd dpc d src1 src2 dest s
  | .pfamDd dpc d src1 src2 dest, s => effPfamDd dpc d src1 src2 dest s
  | .pfmamSs dpc d src1 src2 dest, s => effPfmamSs dpc d src1 src2 dest s
  | .pfmamSd dpc d src1 src2 dest, s => effPfmamSd dpc d src1 src2 dest s
  | .pfmamDd dpc d src1 src2 dest, s => effPfmamDd dpc d src1 src2 dest s
  | .pfsmSs dpc d src1 src2 dest, s => effPfsmSs dpc d src1 src2 dest s
  | .pfsmSd dpc d src1 src2 dest, s => effPfsmSd dpc d src1 src2 dest s
  | .pfsmDd dpc d src1 src2 dest, s => effPfsmDd dpc d src1 src2 dest s
  | .pfmsmSs dpc d src1 src2 dest, s => effPfmsmSs dpc d src1 src2 dest s
  | .pfmsmSd dpc d src1 src2 dest, s => effPfmsmSd dpc d src1 src2 dest s
  | .pfmsmDd dpc d src1 src2 dest, s => effPfmsmDd dpc d src1 src2 dest s
  | .fmulSs d src1 src2 dest, s => effFmulSs d src1 src2 dest s
  | .fmulSd d src1 src2 dest, s => effFmulSd d src1 src2 dest s
  | .fmulDd d src1 src2 dest, s => effFmulDd d src1 src2 dest s
  | .pfmulSs d src1 src2 dest, s => effPfmulSs d src1 src2 dest s
  | .pfmulSd d src1 src2 dest, s => effPfmulSd d src1 src2 dest s
  | .pfmulDd d src1 src2 dest, s => effPfmulDd d src1 src2 dest s
  | .fmlowDd d src1 src2 dest, s => effFmlowDd d src1 src2 dest s
  | .frcpSs d src2 dest, s => effFrcpSs d src2 dest s
  | .frcpSd d src2 dest, s => effFrcpSd d src2 dest s
  | .frcpDd d src2 dest, s => effFrcpDd d src2 dest s
  | .frsqrSs d src2 dest, s => effFrsqrSs d src2 dest s
  | .frsqrSd d src2 dest, s => effFrsqrSd d src2 dest s
  | .frsqrDd d src2 dest, s => effFrsqrDd d src2 dest s
  | .pfmul3Dd d src1 src2 dest, s => effPfmul3Dd d src1 src2 dest s
  | .faddSs d src1 src2 dest, s => effFaddSs d src1 src2 dest s
  | .faddSd d src1 src2 dest, s => effFaddSd d src1 src2 dest s
  | .faddDd d src1 src2 dest, s => effFaddDd d src1 src2 dest s
  | .pfaddSs d src1 src2 dest, s => effPfaddSs d src1 src2 dest s
  | .pfaddSd d src1 src2 dest, s => effPfaddSd d src1 src2 dest s
  | .pfaddDd d src1 src2 dest, s => effPfaddDd d src1 src2 dest s
  | .fsubSs d src1 src2 dest, s => effFsubSs d src1 src2 dest s
  | .fsubSd d src1 src2 dest, s => effFsubSd d src1 src2 dest s
  | .fsubDd d src1 src2 dest, s => effFsubDd d src1 src2 dest s
  | .pfsubSs d src1 src2 dest, s => effPfsubSs d src1 src2 dest s
  | .pfsubSd d src1 src2 dest, s => effPfsubSd d src1 src2 dest s
  | .pfsubDd d src1 src2 dest, s => effPfsubDd d src1 src2 dest s
  | .fixSs d src1 dest, s => effFixSs d src1 dest s
  | .fixSd d src1 dest, s => effFixSd d src1 dest s
  | .fixDd d src1 dest, s => effFixDd d src1 dest s
  | .pfixSs d src1 dest, s => effPfixSs d src1 dest s
  | .pfixSd d src1 dest, s => effPfixSd d src1 dest s
  | .pfixDd d src1 dest, s => effPfixDd d src1 dest s
  | .famovSs d src1 dest, s => effFamovSs d src1 dest s
  | .famovSd d src1 dest, s => effFamovSd d src1 dest s
  | .famovDs d src1 dest, s => effFamovDs d src1 dest s
  | .famovDd d src1 dest, s => effFamovDd d src1 dest s
  | .pfamovSs d src1 dest, s => effPfamovSs d src1 dest s
  | .pfamovSd d src1 dest, s => effPfamovSd d src1 dest s
  | .pfamovDs d src1 dest, s => effPfamovDs d src1 dest s
  | .pfamovDd d src1 dest, s => effPfamovDd d src1 dest s
  | .pfgtSs d src1 src2 dest, s => effPfgtSs d src1 src2 dest s
  | .pfgtDd d src1 src2 dest, s => effPfgtDd d src1 src2 dest s
  | .pfleSs d src1 src2 dest, s => effPfleSs d src1 src2 dest s
  | .pfleDd d src1 src2 dest, s => effPfleDd d src1 src2 dest s
  | .pfeqSs d src1 src2 dest, s => effPfeqSs d src1 src2 dest s
  | .pfeqDd d src1 src2 dest, s => effPfeqDd d src1 src2 dest s
  | .ftruncSs d src1 dest, s => effFtruncSs d src1 dest s
  | .ftruncSd d src1 dest, s => effFtruncSd d src1 dest s
  | .ftruncDd d src1 dest, s => effFtruncDd d src1 dest s
  | .pftruncSs d src1 dest, s => effPftruncSs d src1 dest s
  | .pftruncSd d src1 dest, s => effPftruncSd d src1 dest s
  | .pftruncDd d src1 dest, s => effPftruncDd d src1 dest s
  | .fxfr d src1 dest, s => effFxfr d src1 dest s
  | .fiaddSs d src1 src2 dest, s => effFiaddSs d src1 src2 dest s
  | .fiaddDd d src1 src2 dest, s => effFiaddDd d src1 src2 dest s
  | .pfiaddSs d src1 src2 dest, s => effPfiaddSs d src1 src2 dest s
  | .pfiaddDd d src1 src2 dest, s => effPfiaddDd d src1 src2 dest s
  | .fisubSs d src1 src2 dest, s => effFisubSs d src1 src2 dest s
  | .fisubDd d src1 src2 dest, s => effFisubDd d src1 src2 dest s
  | .pfisubSs d src1 src2 dest, s => effPfisubSs d src1 src2 dest s
  | .pfisubDd d src1 src2 dest, s => effPfisubDd d src1 src2 dest s
  | .faddp d src1 src2 dest, s => effFaddp d src1 src2 dest s
  | .pfaddp d src1 src2 dest, s => effPfaddp d src1 src2 dest s
  | .faddz d src1 src2 dest, s => effFaddz d src1 src2 dest s
  | .pfaddz d src1 src2 dest, s => effPfaddz d src1 src2 dest s
  | .fzchkl d src1 src2 dest, s => effFzchkl d src1 src2 dest s
  | .pfzchkl d src1 src2 dest, s => effPfzchkl d src1 src2 dest s
  | .form d src1 dest, s => effForm d src1 dest s
  | .pform d src1 dest, s => effPform d src1 dest s
  | .fzchks d src1 src2 dest, s => effFzchks d src1 src2 dest s
  | .pfzchks d src1 src2 dest, s => effPfzchks d src1 src2 dest s
  | .mov src2 dest, s => effMov src2 dest s
  | .nop, s => effNop s
  | .fnop d, s => effFnop d s
  | .fmovSs d src1 dest, s => effFmovSs d src1 dest s
  | .fmovDd d src1 dest, s => effFmovDd d src1 dest s
  | .fmovSd d src1 dest, s => effFmovSd d src1 dest s
  | .fmovDs d src1 dest, s => effFmovDs d src1 dest s
  | .pfmovSs d src1 dest, s => effPfmovSs d src1 dest s
  | .pfmovDd d src1 dest, s => effPfmovDd d src1 dest s
  | .pfmovSd d src1 dest, s => effPfmovSd d src1 dest s
  | .pfmovDs d src1 dest, s => effPfmovDs d src1 dest s

end Sys2Proof.Machine
end

