-- ==== Sys2Proof/Machine/Fetch.lean ====
section
/-!
DEFINITION. Fetching an instruction's word (spec/20_memory.md R80, R82), accepting an interrupt (R412), and the step of
a pair (spec/48_dual_instruction_mode.md).
-/
namespace Sys2Proof.Machine

/-- What a fetch brings. -/
inductive Fetched where
  | instr (i : Instr)
  /-- outside populated memory: an instruction access fault -/
  | accessFault
  | refused (r : Refusal)
  deriving DecidableEq, Repr

/-- The four bytes of a word. -/
def State.fetchBytes (s : State) (a : Word) : List Byte :=
  (List.range 4).map fun k => Memory.get s.mem (a.toNat + k)

/-- Every byte of the word is populated. -/
def State.fetchOk (s : State) (a : Word) : Bool :=
  (List.range 4).all fun k => populated s.holes (a.toNat + k)

/-- Fetch and decode the word at an address: the access fault comes first, then a store to it (R80), then the decoder
(R130, R411). -/
def State.fetch (s : State) (a : Word) : Fetched :=
  if !s.fetchOk a then .accessFault
  else if s.stored.contains a.toNat then .refused .fetchOfStored
  else match decodeBytes (s.fetchBytes a) with
    | .ok i => .instr i
    | .error why =>
      .refused (.reservedEncoding why (BitVec.ofNat 32 (ofBytes (s.fetchBytes a)).toNat))

/-- The core half of a pair; a skipped one counts as nop and is not examined (R385, D53). -/
def State.fetchCoreHalf (s : State) (a : Word) : Fetched :=
  if s.skipCore then .instr .nop else s.fetch a

/-- The interrupt request is accepted: IM = 1, and no locked sequence holds it off (R412, R245, R246). -/
def State.interrupted (s : State) : Bool :=
  s.epsr.int && s.psr.im && !s.dirbase.bl && !s.busLock

/-- The end of a run (R455). -/
def State.atHalt (s : State) : Bool :=
  decide (s.haltPc = some s.pc) && !s.delay.isSome && decide (s.mode = .single)

/-- A pair of instructions (R383, R384). -/
def runPair (fi ci : Instr) (s : State) : Host.Outcome State Fault Refusal :=
  if firstHalf fi && secondHalf ci then
    retirePair ((dbit fi).getD true) (isControl ci) (pairConflict s fi ci) s (effect fi s) (effect ci)
  else .refused .pairHalves

/-- The step of a pair at pc; a failed fetch of either word is reported at the low address, before any refusal of the
other word (R411, R421, log entry 19). DESIGN CHOICE: a misaligned pc is refused before the fetch (log entry 40). -/
def stepPair (s : State) : Host.Outcome State Fault Refusal :=
  if s.pc.toNat % 8 ≠ 0 then .refused .misalignedPair
  else match s.fetch s.pc, s.fetchCoreHalf (s.pc + 4) with
    | .accessFault, _ => s.takeTrap .iat s.pc false
    | _, .accessFault => s.takeTrap .iat s.pc false
    | .refused r, _ => .refused r
    | _, .refused r => .refused r
    | .instr fi, .instr ci => runPair fi ci s

end Sys2Proof.Machine
end

