-- ==== Sys2Proof/Machine/Step.lean ====
section
/-!
DEFINITION. One step of the machine (spec/60_exceptions.md R411): end of run, interrupt, fetch, and one instruction or
one pair.
-/
namespace Sys2Proof.Machine

/-- The step of one instruction at pc. DESIGN CHOICE: a misaligned pc is refused before the fetch (log entry 40). -/
def stepSingle (s : State) : Host.Outcome State Fault Refusal :=
  if s.pc.toNat % 4 ≠ 0 then .refused .misalignedPc
  else match s.fetch s.pc with
    | .accessFault => s.takeTrap .iat s.pc false
    | .refused r => .refused r
    | .instr i => exec i s

/-- One step. DESIGN CHOICE (log entry 43): at the end of a run an interrupt request is not accepted any more. -/
def step (s : State) : Host.Outcome State Fault Refusal :=
  if s.atHalt then .fault .halted
  else if s.interrupted then s.takeTrap .inn s.pc false
  else match s.mode with
    | .single => stepSingle s
    | .dual => stepPair s

/-- The state with an instruction word stored where the next step fetches: its four bytes at pc, and no note that a
program stored there. It stands for loading a program from outside (log entry 34). -/
def State.withFetchWord (s : State) (nbits w : Nat) : State :=
  { s with
    mem := Memory.write s.mem s.pc.toNat (bytesOfWord (BitVec.ofNat 32 (w % 2 ^ nbits)))
    stored := s.stored.filter fun a => a != s.pc.toNat }

end Sys2Proof.Machine
end

