-- ==== Sys2Proof/Safety.lean ====
section
/-!
DEFINITION. What a safe run is, the invariants that claims use, and the words in which claims about one instruction are
said: when it may run, and where the machine stands after it.
-/
namespace Sys2Proof.Machine

/-! ## Runs -/

/-- The step ends in a next state: no stop. -/
def Progresses (s : State) : Prop := ∃ t, step s = .next t

/-- Every one of the next `n` steps ends in a next state. -/
def SafeFor (n : Nat) (s : State) : Prop := ∃ t, Sys2Proof.core.run n s = .next t

/-! ## Invariants -/

/-- Memory is in its canonical form. -/
def MemoryCanonical (s : State) : Prop := Memory.wf s.mem = true

/-- pc and a pending target are multiples of 4 (R25, R84, R217). -/
def PcAligned (s : State) : Prop := s.pc.toNat % 4 = 0 ∧ ∀ t, s.delay = some t → t.toNat % 4 = 0

/-- The machine stays in the part the spec models: little-endian, no address translation, no data breakpoint
(R70, R77, R243, R430). -/
def InModelledPart (s : State) : Prop :=
  s.epsr.be = false ∧ s.dirbase.ate = false ∧ s.dirbase.iti = false ∧ s.psr.br = false ∧ s.psr.bw = false

/-! ## When an instruction may run -/

/-- A core instruction other than a control transfer, trap or intovr: single-instruction mode. -/
def CoreReady (s : State) : Prop := s.mode = .single

/-- A control transfer, trap or intovr: single-instruction mode, no mode change under way (R386), and not in a delay
slot (R223). -/
def TransferReady (s : State) : Prop := s.mode = .single ∧ s.armed = false ∧ s.delay = none

/-- A floating-point-format instruction with D-bit `d`: single-instruction mode, D = 1 where the step completes the
entry to dual-instruction mode (R382), and no result exception to report: none pending, or FTE
clear (R406, R407). -/
def FpReady (s : State) (d : Bool) : Prop :=
  s.mode = .single ∧ (s.armed = true → d = true) ∧ (s.fpPending = true → fsrFte s.fsr = false)

/-- A load, store or transfer that may report a result exception: single-instruction mode, none to report (R406, R407).
-/
def DataReady (s : State) : Prop := s.mode = .single ∧ (s.fpPending = true → fsrFte s.fsr = false)

/-- No source exception is taken: FTE is clear, or the operation reports none (R406). -/
def NoSourceTrap (s : State) (o : FpOut) : Prop := fsrFte s.fsr = true → o.se = false

/-- The machine takes no interrupt and is not at the end of its run, in single-instruction mode, with an aligned pc. -/
def FetchReady (s : State) : Prop :=
  s.mode = .single ∧ s.pc.toNat % 4 = 0 ∧ ¬(s.haltPc = some s.pc ∧ s.delay = none)
    ∧ ¬(s.epsr.int = true ∧ s.psr.im = true ∧ s.dirbase.bl = false ∧ s.busLock = false)

/-- The word at an address, its first byte the lowest (R82). -/
def State.wordAt (s : State) (a : Word) : Word :=
  wordOfBytes (Memory.get s.mem a.toNat) (Memory.get s.mem (a.toNat + 1)) (Memory.get s.mem (a.toNat + 2))
    (Memory.get s.mem (a.toNat + 3))

/-! ## Where the machine stands after an instruction -/

/-- The machine after a step of single-instruction mode from `s`: the instruction has D-bit `d` (false where it has
none), it leaves the effects `t`, and control goes on by `c` (R210, R382). -/
def State.movedOn (s : State) (d : Bool) (t : State) (c : Ctl) : State :=
  s.complete t ⟨if s.armed then .dual else .single, !s.armed && d⟩ c

/-- The instruction completes, leaves the effects `t` and is followed by the next one in sequence, or by the target of
a transfer in whose delay slot it stands. -/
def Gives (i : Instr) (d : Bool) (s t : State) : Prop := exec i s = .next (s.movedOn d t .seq)

/-- A control transfer completes outside a delay slot: the effects `t`, the next pc, the pending target. -/
def Transfers (i : Instr) (s t : State) (pc : Word) (delay : Option Word) : Prop :=
  exec i s = .next { t with pc := pc, delay := delay, delayMode := none, skipCore := false }

/-- The address `pc + 4 + 4 * off`, modulo 2^32 (R10). -/
def State.branchTarget (s : State) (off : Int) : Word := BitVec.ofInt 32 (s.pc.toNat + 4 + 4 * off)

/-! ## Pairs -/

/-- The core half of a pair is `ci`: the instruction fetched, or nop where a bc.t or bnc.t skips it (R385). -/
def State.CoreHalf (s : State) (ci : Instr) : Prop :=
  s.skipCore = true ∧ ci = .nop ∨ s.skipCore = false ∧ s.fetch (s.pc + 4) = .instr ci

/-- A pair `fi`, `ci` in dual-instruction mode that the rules admit: aligned (R381), fetched, each instruction in its half (R383), no common write (R384), no excursion of the
D-bit `d` (R382), and no control transfer in a transition (R386). -/
def PairReady (s : State) (fi ci : Instr) (d : Bool) : Prop :=
  s.mode = .dual ∧ s.pc.toNat % 8 = 0 ∧ s.interrupted = false ∧ s.fetch s.pc = .instr fi ∧ s.CoreHalf ci ∧
    dbit fi = some d ∧ secondHalf ci = true ∧ pairConflict s fi ci = false ∧ (s.armed = true → d = false) ∧
    (isControl ci = true → s.armed = false ∧ d = true)

/-- A part `x` of the state `t` after a pair: what the floating-point half has changed, and else what the core half has
left (R384). -/
def FromEither {α : Type} [DecidableEq α] (s sf sc t : State) (x : State → α) : Prop :=
  x t = if x sf = x s then x sc else x sf

/-- Every register, every other part of the state but where control goes on, and the count of free draws, after a pair
whose halves have left `sf` and `sc`. -/
def BothWrite (s sf sc t : State) : Prop :=
  (∀ j, FromEither s sf sc t (·.R j)) ∧ (∀ j, FromEither s sf sc t (·.FS j)) ∧
    FromEither s sf sc t (·.psr.cc) ∧ FromEither s sf sc t (·.psr.pm) ∧
    FromEither s sf sc t (fun x => { x.psr with cc := false, pm := 0 }) ∧
    FromEither s sf sc t (·.epsr) ∧ FromEither s sf sc t (·.dirbase) ∧ FromEither s sf sc t (·.db) ∧
    FromEither s sf sc t (·.fsr) ∧ FromEither s sf sc t (·.firLatched) ∧ FromEither s sf sc t (·.slotFirs) ∧
    FromEither s sf sc t (·.frames) ∧ FromEither s sf sc t (·.kr) ∧ FromEither s sf sc t (·.ki) ∧
    FromEither s sf sc t (·.t) ∧ FromEither s sf sc t (·.merge) ∧ FromEither s sf sc t (·.aPipe) ∧
    FromEither s sf sc t (·.mPipe) ∧ FromEither s sf sc t (·.gPipe) ∧ FromEither s sf sc t (·.lPipe) ∧
    FromEither s sf sc t (·.fpPending) ∧ FromEither s sf sc t (·.busLock) ∧ FromEither s sf sc t (·.mem) ∧
    FromEither s sf sc t (·.undef) ∧ FromEither s sf sc t (·.stored) ∧ FromEither s sf sc t (·.holes) ∧
    FromEither s sf sc t (·.haltPc) ∧ t.free = sc.free

/-- Where control stands in `t` after a pair at `s` (R382, R385): at the pending target where the pair is the slot of a
delayed transfer, in the mode a trap return has selected; otherwise as `c`, the outcome of the core half, says. -/
def PairMovesOn (s t : State) (d : Bool) (c : Ctl) : Prop :=
  let byDBit := t.mode = (if s.armed then Mode.single else Mode.dual) ∧ t.armed = (!s.armed && !d)
  match s.delay with
  | some a =>
    t.pc = a ∧ t.delay = none ∧ t.delayMode = none ∧ t.skipCore = false ∧
      match s.delayMode with
      | some m => t.mode = m.mode ∧ t.armed = m.armed
      | none => byDBit
  | none =>
    byDBit ∧
      match c with
      | .seq => t.pc = s.pc + 8 ∧ t.delay = none ∧ t.delayMode = none ∧ t.skipCore = false
      | .jump a => t.pc = a ∧ t.delay = none ∧ t.delayMode = none ∧ t.skipCore = false
      | .delayed a m => t.pc = s.pc + 8 ∧ t.delay = some a ∧ t.delayMode = m ∧ t.skipCore = false
      | .skip =>
        t.pc = (if Config.dimSkipFpHalf then s.pc + 16 else s.pc + 8) ∧ t.delay = none ∧ t.delayMode = none ∧
          t.skipCore = !Config.dimSkipFpHalf

/-- Both halves of a pair write one state element (R384): a floating-point register but f0 and f1, an integer register
but r0, CC, PM, or fsr while a floating-point instruction reports through it. -/
def WritesOneElement (s : State) (fi ci : Instr) : Prop :=
  (∃ x ∈ (traits fi).fDests, x ∈ coreFDests s ci ∧ x ≠ 0 ∧ x ≠ 1) ∨
    (∃ x ∈ (traits fi).rDests, x ∈ (traits ci).rDests ∧ x ≠ 0) ∨ ((traits fi).cc = true ∧ (traits ci).cc = true) ∨
    ((traits fi).pm = true ∧ (traits ci).pm = true) ∨ ((traits fi).reports = true ∧ (traits ci).fsr = true)

/-! ## Data accesses -/

/-- The machine after a data access: a bus lock ends unless BL holds it (R246). -/
def State.afterAccess (s : State) : State := { s with busLock := s.busLock && s.dirbase.bl }

/-- The machine after a load of `n` bytes: one free value is drawn if flush has left a byte undefined (U1). -/
def State.afterLoad (s : State) (ea : Word) (n : Nat) : State :=
  { s.afterAccess with free := if ∃ k < n, ea.toNat + k ∈ s.undef then s.free + 1 else s.free }

/-- Four bytes of an access at `ea`, from its byte `k` on, little-endian (R70). -/
def State.loadWord (s : State) (ea : Word) (k : Nat) : Word :=
  s.byteAt (ea.toNat + k + 3) (k + 3) ++ s.byteAt (ea.toNat + k + 2) (k + 2) ++ s.byteAt (ea.toNat + k + 1) (k + 1)
    ++ s.byteAt (ea.toNat + k) k

/-- An access of `n` bytes is aligned and populated (R72, R76). -/
def State.accessible (s : State) (ea : Word) (n : Nat) : Prop :=
  ea.toNat % n = 0 ∧ ∀ k < n, ∀ h ∈ s.holes, ¬(h.1 ≤ ea.toNat + k ∧ ea.toNat + k ≤ h.2)

/-- The base register of an autoincrementing access (R170). -/
def State.withBase (s : State) (auto : Bool) (base : Reg) (ea : Word) : State :=
  if auto then s.setR base ea else s

/-- A store completes: of memory exactly the `n` bytes at `ea` change, to `bytes`; those bytes are no longer undefined,
the words they stand in may not be fetched any more (R80), and the base register is incremented. -/
def Stores (i : Instr) (s : State) (ea : Word) (n : Nat) (bytes : Nat → Byte) (auto : Bool) (base : Reg) : Prop :=
  ∃ m u w,
    Gives i false s (({ s.afterAccess with mem := m, undef := u, stored := w }).withBase auto base ea) ∧
    (∀ x, Memory.get m x = if ea.toNat ≤ x ∧ x < ea.toNat + n then bytes (x - ea.toNat) else Memory.get s.mem x) ∧
    (∀ x, x ∈ u ↔ x ∈ s.undef ∧ ¬(ea.toNat ≤ x ∧ x < ea.toNat + n)) ∧
    (∀ x, x ∈ w ↔ x ∈ s.stored ∨ x % 4 = 0 ∧ x < ea.toNat + n ∧ ea.toNat < x + 4)

/-- The effective address and the width of an instruction that accesses data (R150). -/
def dataAccess (s : State) : Instr → Option (Word × Nat)
  | .ldbR src1 src2 _ => some (s.R src1 + s.R src2, 1)
  | .ldbI off src2 _ => some (off.signExtend 32 + s.R src2, 1)
  | .ldsR src1 src2 _ => some (s.R src1 + s.R src2, 2)
  | .ldsI off src2 _ => some (offset15 off + s.R src2, 2)
  | .ldlR src1 src2 _ => some (s.R src1 + s.R src2, 4)
  | .ldlI off src2 _ => some (offset15 off + s.R src2, 4)
  | .stb _ off src2 => some (off.signExtend 32 + s.R src2, 1)
  | .sts _ off src2 => some (offset15 off + s.R src2, 2)
  | .stl _ off src2 => some (offset15 off + s.R src2, 4)
  | .fldlR _ src1 src2 _ => some (s.R src1 + s.R src2, 4)
  | .fldlI _ off src2 _ => some (offset14 off + s.R src2, 4)
  | .flddR _ src1 src2 _ => some (s.R src1 + s.R src2, 8)
  | .flddI _ off src2 _ => some (offset13 off + s.R src2, 8)
  | .fldqR _ src1 src2 _ => some (s.R src1 + s.R src2, 16)
  | .fldqI _ off src2 _ => some (offset13 off + s.R src2, 16)
  | .fstlR _ src1 src2 _ => some (s.R src1 + s.R src2, 4)
  | .fstlI _ off src2 _ => some (offset14 off + s.R src2, 4)
  | .fstdR _ src1 src2 _ => some (s.R src1 + s.R src2, 8)
  | .fstdI _ off src2 _ => some (offset13 off + s.R src2, 8)
  | .fstqR _ src1 src2 _ => some (s.R src1 + s.R src2, 16)
  | .fstqI _ off src2 _ => some (offset13 off + s.R src2, 16)
  | .pfldlR _ src1 src2 _ => some (s.R src1 + s.R src2, 4)
  | .pfldlI _ off src2 _ => some (offset14 off + s.R src2, 4)
  | .pflddR _ src1 src2 _ => some (s.R src1 + s.R src2, 8)
  | .pflddI _ off src2 _ => some (offset13 off + s.R src2, 8)
  | .pstd _ off src2 _ => some (offset13 off + s.R src2, 8)
  | _ => none

/-! ## Floating point -/

/-- A result exception of the operation becomes pending: FTE is set, and inexact counts only under TI (R407). -/
def State.pends (s : State) (o : FpOut) : Bool :=
  s.fpPending || (fsrFte s.fsr && (o.overflow || o.underflow || o.inexact && fsrTi s.fsr))

/-- Instructions that report a pending result exception always: floating-point format, fst, pst.d (R407). -/
def reportsResult (i : Instr) : Bool :=
  (traits i).fp || match i with
    | .fstlR _ _ _ _ => true
    | .fstlI _ _ _ _ => true
    | .fstdR _ _ _ _ => true
    | .fstdI _ _ _ _ => true
    | .fstqR _ _ _ _ => true
    | .fstqI _ _ _ _ => true
    | .pstd _ _ _ _ => true
    | _ => false

/-- Instructions that report a pending result exception sometimes: fld, pfld, ixfr (R407, U10). -/
def mayReport (i : Instr) : Bool :=
  match i with
  | .fldlR _ _ _ _ => true
  | .fldlI _ _ _ _ => true
  | .flddR _ _ _ _ => true
  | .flddI _ _ _ _ => true
  | .fldqR _ _ _ _ => true
  | .fldqI _ _ _ _ => true
  | .pfldlR _ _ _ _ => true
  | .pfldlI _ _ _ _ => true
  | .pflddR _ _ _ _ => true
  | .pflddI _ _ _ _ => true
  | .ixfr _ _ => true
  | _ => false

/-- The registers that hold a 64-bit operand (R33). A pfld writes the width of the entry it delivers and has none. -/
def doubleRegs (i : Instr) : List Reg :=
  match i with
  | .flddR _ _ _ dest => [dest]
  | .flddI _ _ _ dest => [dest]
  | .fstdR _ _ _ dest => [dest]
  | .fstdI _ _ _ dest => [dest]
  | .pstd _ _ _ dest => [dest]
  | .pfamDd _ _ src1 src2 dest => [src1, src2, dest]
  | .pfsmDd _ _ src1 src2 dest => [src1, src2, dest]
  | .pfmamDd _ _ src1 src2 dest => [src1, src2, dest]
  | .pfmsmDd _ _ src1 src2 dest => [src1, src2, dest]
  | .fmulSd _ _ _ dest => [dest]
  | .fmulDd _ src1 src2 dest => [src1, src2, dest]
  | .pfmulSd _ _ _ dest => [dest]
  | .pfmulDd _ src1 src2 dest => [src1, src2, dest]
  | .pfmul3Dd _ src1 src2 dest => [src1, src2, dest]
  | .fmlowDd _ src1 src2 dest => [src1, src2, dest]
  | .frcpSd _ _ dest => [dest]
  | .frcpDd _ src2 dest => [src2, dest]
  | .frsqrSd _ _ dest => [dest]
  | .frsqrDd _ src2 dest => [src2, dest]
  | .faddSd _ _ _ dest => [dest]
  | .faddDd _ src1 src2 dest => [src1, src2, dest]
  | .pfaddSd _ _ _ dest => [dest]
  | .pfaddDd _ src1 src2 dest => [src1, src2, dest]
  | .fsubSd _ _ _ dest => [dest]
  | .fsubDd _ src1 src2 dest => [src1, src2, dest]
  | .pfsubSd _ _ _ dest => [dest]
  | .pfsubDd _ src1 src2 dest => [src1, src2, dest]
  | .fixSd _ _ dest => [dest]
  | .fixDd _ src1 dest => [src1, dest]
  | .pfixSd _ _ dest => [dest]
  | .pfixDd _ src1 dest => [src1, dest]
  | .ftruncSd _ _ dest => [dest]
  | .ftruncDd _ src1 dest => [src1, dest]
  | .pftruncSd _ _ dest => [dest]
  | .pftruncDd _ src1 dest => [src1, dest]
  | .famovSd _ _ dest => [dest]
  | .famovDs _ src1 _ => [src1]
  | .famovDd _ src1 dest => [src1, dest]
  | .pfamovSd _ _ dest => [dest]
  | .pfamovDs _ src1 _ => [src1]
  | .pfamovDd _ src1 dest => [src1, dest]
  | .fmovSd _ _ dest => [dest]
  | .fmovDs _ src1 _ => [src1]
  | .fmovDd _ src1 dest => [src1, dest]
  | .pfmovSd _ _ dest => [dest]
  | .pfmovDs _ src1 _ => [src1]
  | .pfmovDd _ src1 dest => [src1, dest]
  | .pfgtDd _ src1 src2 dest => [src1, src2, dest]
  | .pfleDd _ src1 src2 dest => [src1, src2, dest]
  | .pfeqDd _ src1 src2 dest => [src1, src2, dest]
  | .fiaddDd _ src1 src2 dest => [src1, src2, dest]
  | .pfiaddDd _ src1 src2 dest => [src1, src2, dest]
  | .fisubDd _ src1 src2 dest => [src1, src2, dest]
  | .pfisubDd _ src1 src2 dest => [src1, src2, dest]
  | .faddp _ src1 src2 dest => [src1, src2, dest]
  | .pfaddp _ src1 src2 dest => [src1, src2, dest]
  | .faddz _ src1 src2 dest => [src1, src2, dest]
  | .pfaddz _ src1 src2 dest => [src1, src2, dest]
  | .fzchkl _ src1 src2 dest => [src1, src2, dest]
  | .pfzchkl _ src1 src2 dest => [src1, src2, dest]
  | .fzchks _ src1 src2 dest => [src1, src2, dest]
  | .pfzchks _ src1 src2 dest => [src1, src2, dest]
  | .form _ src1 dest => [src1, dest]
  | .pform _ src1 dest => [src1, dest]
  | _ => []

/-- The registers that hold a 128-bit operand (R33). -/
def quadRegs (i : Instr) : List Reg :=
  match i with
  | .fldqR _ _ _ dest => [dest]
  | .fldqI _ _ _ dest => [dest]
  | .fstqR _ _ _ dest => [dest]
  | .fstqI _ _ _ dest => [dest]
  | _ => []

/-! ## Who writes what -/

/-- Instructions that store to memory. -/
def storesMemory (i : Instr) : Bool :=
  match i with
  | .stb _ _ _ => true
  | .sts _ _ _ => true
  | .stl _ _ _ => true
  | .fstlR _ _ _ _ => true
  | .fstlI _ _ _ _ => true
  | .fstdR _ _ _ _ => true
  | .fstdI _ _ _ _ => true
  | .fstqR _ _ _ _ => true
  | .fstqI _ _ _ _ => true
  | .pstd _ _ _ _ => true
  | _ => false

/-- Instructions that write OF: adds, addu, subs, subu, and st.c to epsr (R30). -/
def writesOF (i : Instr) : Bool :=
  match i with
  | .addsR _ _ _ => true
  | .addsI _ _ _ => true
  | .adduR _ _ _ => true
  | .adduI _ _ _ => true
  | .subsR _ _ _ => true
  | .subsI _ _ _ => true
  | .subuR _ _ _ => true
  | .subuI _ _ _ => true
  | .stc _ .epsr => true
  | _ => false

/-- Instructions that write CC: those of R28, and st.c to psr. -/
def writesCC (i : Instr) : Bool :=
  match i with
  | .addsR _ _ _ => true
  | .addsI _ _ _ => true
  | .adduR _ _ _ => true
  | .adduI _ _ _ => true
  | .subsR _ _ _ => true
  | .subsI _ _ _ => true
  | .subuR _ _ _ => true
  | .subuI _ _ _ => true
  | .andR _ _ _ => true
  | .andI _ _ _ => true
  | .andh _ _ _ => true
  | .andnotR _ _ _ => true
  | .andnotI _ _ _ => true
  | .andnoth _ _ _ => true
  | .orR _ _ _ => true
  | .orI _ _ _ => true
  | .orh _ _ _ => true
  | .xorR _ _ _ => true
  | .xorI _ _ _ => true
  | .xorh _ _ _ => true
  | .pfgtSs _ _ _ _ => true
  | .pfgtDd _ _ _ _ => true
  | .pfleSs _ _ _ _ => true
  | .pfleDd _ _ _ _ => true
  | .pfeqSs _ _ _ _ => true
  | .pfeqDd _ _ _ _ => true
  | .stc _ .psr => true
  | _ => false

/-- Instructions that write SC: shr, and st.c to psr (R39). -/
def writesSC (i : Instr) : Bool :=
  match i with
  | .shrR _ _ _ => true
  | .shrI _ _ _ => true
  | .stc _ .psr => true
  | _ => false

/-- Instructions that write LCC: bla, and st.c to psr (R29). -/
def writesLCC (i : Instr) : Bool :=
  match i with
  | .bla _ _ _ => true
  | .stc _ .psr => true
  | _ => false

/-- Instructions that write PM: the Z-buffer checks, pst.d, and st.c to psr (R37). -/
def writesPM (i : Instr) : Bool :=
  match i with
  | .fzchkl _ _ _ _ => true
  | .fzchks _ _ _ _ => true
  | .pfzchkl _ _ _ _ => true
  | .pfzchks _ _ _ _ => true
  | .pstd _ _ _ _ => true
  | .stc _ .psr => true
  | _ => false

end Sys2Proof.Machine
end

