-- ==== Sys2Proof/Certificates/Slice0/Obligations.lean ====
section
/-!
DEFINITION. The statements for the provers. Each says what the spec's rules say of the machine; `Gives`, `Transfers`,
`Stores` and the conditions under which an instruction may run are in Sys2Proof/Safety.lean.
-/
open Sys2Proof Sys2Proof.Machine

/-! ## Reset and the machine's invariants -/

/-- After reset the machine stands as R451 states: every value that the table gives. pc and the mode bits
are the family's, PRESUMED (log entry 2). -/
def Obligations.ResetStateIsAsStated : Prop :=
  let s := State.reset
  s.pc = 0xFFFFFF00#32 ∧ s.mode = .single ∧ s.armed = false ∧ s.delay = none ∧
  s.R 0 = 0 ∧ s.FS 0 = 0 ∧ s.FS 1 = 0 ∧
  s.psr.u = false ∧ s.psr.im = false ∧ s.psr.br = false ∧ s.psr.bw = false ∧ s.psr.it = false ∧ s.psr.inn = false ∧
  s.psr.iat = false ∧ s.psr.dat = false ∧ s.psr.ft = false ∧ s.psr.ds = false ∧ s.psr.dim = false ∧
  s.psr.knf = false ∧
  s.epsr.be = false ∧ s.epsr.il = false ∧ s.epsr.wp = false ∧ s.epsr.pbm = false ∧
  s.dirbase.ate = false ∧ s.dirbase.bl = false ∧ s.dirbase.iti = false ∧ s.dirbase.dps = 0 ∧ s.dirbase.rb = 0 ∧
  s.dirbase.rc = 0 ∧ s.dirbase.cs8 = false ∧
  s.fsr.getLsbD 5 = false ∧ s.fsr.getLsbD 0 = false ∧ s.fsr.getLsbD 1 = false ∧ s.fsr.extractLsb' 2 2 = 0 ∧
  s.fsr.getLsbD 4 = false ∧ s.fsr.getLsbD 7 = false ∧
  s.firLatched = none ∧ s.fpPending = false ∧ s.busLock = false ∧
  s.aPipe = ⟨.undef, .undef, .undef⟩ ∧ s.mPipe = .three .undef .undef .undef ∧ s.gPipe = .undef ∧
  s.lPipe = ⟨.undef, .undef, .undef⟩

/-- The reset state meets the invariants that every step keeps. That pc, the modes and the control bits have these
values at reset is GK13, PRESUMED (log entry 2), and the canonical form of memory is the model's (log entry 3). -/
def Obligations.ResetMeetsTheInvariants : Prop :=
  MemoryCanonical State.reset ∧ PcAligned State.reset ∧ InModelledPart State.reset

/-- A step keeps memory in its canonical form. The canonical form is the model's (log entry 3). -/
def Obligations.StepKeepsMemoryCanonical : Prop :=
  ∀ s t, MemoryCanonical s → step s = .next t → MemoryCanonical t

/-- A step keeps pc and the pending target multiples of 4: every instruction begins on a four-byte boundary. -/
def Obligations.StepKeepsPcAligned : Prop := ∀ s t, PcAligned s → step s = .next t → PcAligned t

/-- No step turns on big-endian data, address translation or the data breakpoint. -/
def Obligations.StepStaysInModelledPart : Prop := ∀ s t, InModelledPart s → step s = .next t → InModelledPart t

/-- In user mode with no trap bit set, a step either enters the trap handler in supervisor mode, saving U = 1 in PU,
or it stays in user mode and leaves alone db, every bit of psr but CC, LCC, SC, PS and PM, every bit of epsr but
OF, and every bit of dirbase but BL. What st.c does in user mode is GK21 (log entry 37), the trap vector and what
is saved GK12 (log entry 11). -/
def Obligations.UserModeCannotChangeSupervisorState : Prop :=
  ∀ s t, s.psr.u = true → s.psr.anyTrap = false → step s = .next t →
    t.db = s.db ∧ t.epsr = { s.epsr with of := t.epsr.of } ∧
    ((t.pc = 0xFFFFFF00#32 ∧ t.psr.u = false ∧ t.psr.pu = true ∧ t.psr.im = false ∧ t.psr.pim = s.psr.im ∧
        t.psr.anyTrap = true ∧ t.dirbase = s.dirbase) ∨
      (t.psr = { s.psr with cc := t.psr.cc, lcc := t.psr.lcc, sc := t.psr.sc, ps := t.psr.ps, pm := t.psr.pm } ∧
        t.dirbase = { s.dirbase with bl := t.dirbase.bl }))

/-- No step changes what only the environment sets (the interrupt request line, the populated part of memory, the halt
address), nor the read-only fields of epsr (type, stepping, DCS). That the interrupt line is epsr.INT, and holes
and the halt address stand in State, is the model's choice (log entries 20, 22). -/
def Obligations.StepKeepsReadOnlyState : Prop :=
  ∀ s t, step s = .next t →
    t.epsr.int = s.epsr.int ∧ t.holes = s.holes ∧ t.haltPc = s.haltPc ∧
    t.epsr.ptype = s.epsr.ptype ∧ t.epsr.stepping = s.epsr.stepping ∧ t.epsr.dcs = s.epsr.dcs

/-! ## Whole-machine rules -/

/-- CC, LCC, OF, SC, PM and PS change only in the instructions that write them, and memory only in stores. -/
def Obligations.FlagsAndMemoryHaveOnlyTheirWriters : Prop :=
  ∀ i s t, exec i s = .next t →
    (writesCC i = false → t.psr.cc = s.psr.cc) ∧ (writesLCC i = false → t.psr.lcc = s.psr.lcc) ∧
    (writesOF i = false → t.epsr.of = s.epsr.of) ∧ (writesSC i = false → t.psr.sc = s.psr.sc) ∧
    (writesPM i = false → t.psr.pm = s.psr.pm) ∧ ((∀ r, i ≠ .stc r .psr) → t.psr.ps = s.psr.ps) ∧
    (storesMemory i = false → t.mem = s.mem)

/-- An instruction changes only the registers that its row in `traits` names, which is what the conflict rule of
dual-instruction mode reads. -/
def Obligations.InstructionsWriteOnlyTheirNamedRegisters : Prop :=
  ∀ i s t, exec i s = .next t →
    (∀ j, j ∉ (traits i).rDests → t.R j = s.R j) ∧
    (∀ j, j ∉ (traits i).fDests → j ∉ coreFDests s i → t.FS j = s.FS j)

/-! ## Encoding -/

/-- Decoding the encoding of a well-formed instruction gives it back (a pseudo-operation as the machine instruction it
stands for), with every operand at every value. What pseudo-operations decode to is DEDUCED (log entry 27). -/
def Obligations.DecodeInvertsEncode : Prop := ∀ i : Instr, i.WellFormed = true → decode (encode i) = .ok i.expand

/-- The decoder answers only well-formed machine instructions. That data-path control 1111 of pfmam and pfmsm is
reserved is DEDUCED (log entry 28). -/
def Obligations.DecodedInstructionIsWellFormed : Prop :=
  ∀ w i, decode w = .ok i → i.WellFormed = true ∧ i.expand = i

/-- Every encoding that R130 lists as reserved is rejected by name: primary opcodes, core-escape opcodes, control-register
numbers, floating-point opcodes and their P-bit, precision combinations, and size bits. That the machine stops at them is
the spec's own decision D13. -/
def Obligations.ReservedWordsAreRejected : Prop :=
  ∀ w : Word,
    let primary := w.toNat / 2 ^ 26
    let fop := w.toNat % 2 ^ 7
    let p := w.getLsbD 10
    let sr := (w.getLsbD 8, w.getLsbD 7)
    (primary ∈ [0x06, 0x32, 0x36, 0x3A, 0x3E] → decode w = .error .primaryOpcode) ∧
    (primary = 0x13 → w.toNat % 2 ^ 5 ∉ [1, 2, 4, 7] → decode w = .error .coreEscape) ∧
    (primary ∈ [0x0C, 0x0E] → 5 < w.toNat / 2 ^ 21 % 32 → decode w = .error .controlRegister) ∧
    (primary ∈ [0x18, 0x19] → w.getLsbD 1 = false → w.getLsbD 2 = true → decode w = .error .sizeBits) ∧
    (primary ∈ [0x0D, 0x0F] → w.getLsbD 1 = true ∨ w.getLsbD 2 = true → decode w = .error .sizeBits) ∧
    (primary = 0x12 →
      (0x20 ≤ fop → fop ∉ [0x20, 0x21, 0x22, 0x23, 0x24, 0x30, 0x31, 0x32, 0x33, 0x34, 0x35, 0x3A, 0x40, 0x49, 0x4D,
        0x50, 0x51, 0x57, 0x5A, 0x5F] → decode w = .error .fpOpcode) ∧
      (fop ∈ [0x21, 0x22, 0x23, 0x40] → p = true → decode w = .error .fpOpcode) ∧
      (fop ∈ [0x24, 0x34, 0x35] → p = false → decode w = .error .fpOpcode) ∧
      (sr = (true, false) → fop ∈ [0x20, 0x30, 0x31, 0x32, 0x3A] ∨ fop ∈ [0x22, 0x23] ∧ p = false ∨
        fop < 0x20 ∧ (p = true ∨ fop % 16 ≠ 15) → decode w = .error .fpPrecision) ∧
      (sr.1 ≠ sr.2 → fop ∈ [0x49, 0x4D] → decode w = .error .fpPrecision) ∧
      (sr ≠ (true, true) → fop = 0x21 ∧ p = false ∨ fop = 0x24 ∧ p = true → decode w = .error .fpPrecision))

/-- Words written out from the spec's encodings decode to their instructions. -/
def Obligations.DecodesWordsOfTheSpec : Prop :=
  decode 0x9610FFFF#32 = .ok (.addsI 0xFFFF 16 16) ∧ decode 0x90C72800#32 = .ok (.addsR 5 6 7) ∧
  decode 0xC6040003#32 = .ok (.andI 3 16 4) ∧ decode 0xA6970002#32 = .ok (.shlI 2 20 23) ∧
  decode 0x04A60000#32 = .ok (.ldbI 0 5 6) ∧ decode 0x521F07FD#32 = .ok (.btneR 0 16 0xFFFD) ∧
  decode 0x70000003#32 = .ok (.bc 3) ∧ decode 0x4C004002#32 = .ok (.calli 8) ∧
  decode 0x30240000#32 = .ok (.ldc .psr 4) ∧ decode 0x44000000#32 = .ok (.trap 0 0 0) ∧
  decode 0x480003C9#32 = .ok (.fiaddDd true 0 0 0) ∧ decode 0xB0000200#32 = .ok (.shrd true 0 0 0)

/-! ## The step -/

/-- The step at an instruction in single-instruction mode runs it: the bytes at pc are populated, no store has touched
them, and they decode. -/
def Obligations.StepRunsTheDecodedInstruction : Prop :=
  ∀ s i, FetchReady s → s.accessible s.pc 4 → s.pc.toNat ∉ s.stored →
    decodeBytes ((List.range 4).map fun k => Memory.get s.mem (s.pc.toNat + k)) = .ok i → step s = exec i s

/-- What comes before the instruction: the end of the run at HALT_PC, with no transfer pending in single-instruction
mode; then an interrupt request that IM enables and no lock holds off; then a fetch outside populated memory, which
takes the trap IAT; then a word that a store has touched or that is a reserved encoding, which is refused. In a pair the
fetch of either word that fails traps with the address of the pair, before either word is refused, and a core half that
is skipped is not fetched. Trap entry is GK12 (log entry 11), the address of the pair DEDUCED (log entry 19); the request
line, the refusal of stored words, the halt before an interrupt and the form of the skip are the model's choices (log
entries 20, 23, 43, 35), and that a reserved encoding stops the machine is the spec's own decision D13. -/
def Obligations.EventsBeforeTheInstruction : Prop :=
  ∀ s : State,
    (s.haltPc = some s.pc → s.delay = none → s.mode = .single → step s = .fault .halted) ∧
    (¬(s.haltPc = some s.pc ∧ s.delay = none ∧ s.mode = .single) → s.epsr.int = true → s.psr.im = true →
      s.dirbase.bl = false → s.busLock = false → step s = .next (s.enterTrap .inn s.pc false)) ∧
    (FetchReady s → ¬s.accessible s.pc 4 → s.dirbase.bl = false → step s = .next (s.enterTrap .iat s.pc false)) ∧
    (FetchReady s → s.accessible s.pc 4 → s.pc.toNat ∈ s.stored → step s = .refused .fetchOfStored) ∧
    (∀ why, FetchReady s → s.accessible s.pc 4 → s.pc.toNat ∉ s.stored → decode (s.wordAt s.pc) = .error why →
      step s = .refused (.reservedEncoding why (s.wordAt s.pc))) ∧
    (s.mode = .dual → s.pc.toNat % 8 = 0 → s.interrupted = false →
      let second := s.pc + 4
      (¬s.accessible s.pc 4 ∨ s.skipCore = false ∧ ¬s.accessible second 4 → s.dirbase.bl = false →
        step s = .next (s.enterTrap .iat s.pc false)) ∧
      (s.accessible s.pc 4 → s.skipCore = true ∨ s.accessible second 4 →
        (s.pc.toNat ∈ s.stored → step s = .refused .fetchOfStored) ∧
        (∀ why, s.pc.toNat ∉ s.stored → decode (s.wordAt s.pc) = .error why →
          step s = .refused (.reservedEncoding why (s.wordAt s.pc))) ∧
        ∀ fi, s.pc.toNat ∉ s.stored → decode (s.wordAt s.pc) = .ok fi → s.skipCore = false →
          (second.toNat ∈ s.stored → step s = .refused .fetchOfStored) ∧
          ∀ why, second.toNat ∉ s.stored → decode (s.wordAt second) = .error why →
            step s = .refused (.reservedEncoding why (s.wordAt second))))

/-- A pair in dual-instruction mode. Both halves read the state before the pair. Where both complete, the writes of both
appear in every part of the state, and control goes on as the core half says. Where the floating-point half traps,
nothing of either half is written. Where the core half traps, nothing of it is written, and the floating-point half
has taken effect or not, a free choice that KNF records. A trap saves the address of the pair. How the writes are merged
is DEDUCED (log entry 17); what entry writes and what KNF records are PRESUMED (log entries 11, 15); the free choice for
every trap of a core half, and the form of a skipped half, are the model's choices (log entries 16, 35). -/
def Obligations.PairAppliesBothHalvesOrTraps : Prop :=
  ∀ s fi ci d, PairReady s fi ci d →
    (∀ sf sc c, effect fi s = .ok sf .seq → effect ci { s with free := sf.free } = .ok sc c →
      ∃ t, step s = .next t ∧ BothWrite s sf sc t ∧ PairMovesOn s t d c) ∧
    (∀ sf k, effect fi s = .trap k sf → (effect ci s).staticRefusal = none → s.dirbase.bl = false →
      step s = .next ({ s with fpPending := sf.fpPending, free := sf.free }.enterTrap .ft s.pc false)) ∧
    (∀ sf sc k, effect fi s = .ok sf .seq → effect ci { s with free := sf.free } = .trap k sc → s.dirbase.bl = false →
      step s = .next (if Config.freeBool sc.free then
          { sf with
            free := sc.free + 1
            fpPending := if sf.fpPending = s.fpPending then sc.fpPending else sf.fpPending }.enterTrap k s.pc true
        else { s with free := sc.free + 1, fpPending := sc.fpPending }.enterTrap k s.pc false))

/-- Where a step of single-instruction mode goes on: in a delay slot at the pending target, in the mode that a trap
return has selected; otherwise in sequence, at the target, or past the next instruction; and the mode changes two steps
after the D-bit. Nothing else changes. -/
def Obligations.SequenceModeAndDelaySlot : Prop :=
  ∀ (s t : State) (d : Bool) (c : Ctl), s.mode = .single →
    let n := s.movedOn d t c
    let modeByDBit := n.mode = (if s.armed then Mode.dual else Mode.single) ∧ n.armed = (!s.armed && d)
    (∀ a, s.delay = some a → n.pc = a ∧ n.delay = none ∧ (s.delayMode = none → modeByDBit) ∧
      ∀ m, s.delayMode = some m → n.mode = m.mode ∧ n.armed = m.armed) ∧
    (s.delay = none → modeByDBit ∧ (c = .seq → n.pc = s.pc + 4) ∧ (∀ a, c = .jump a → n.pc = a) ∧
      (∀ a m, c = .delayed a m → n.pc = s.pc + 4 ∧ n.delay = some a ∧ n.delayMode = m) ∧
      (c = .skip → n.pc = s.pc + 8)) ∧
    n = { t with pc := n.pc, delay := n.delay, delayMode := n.delayMode, skipCore := n.skipCore, mode := n.mode,
                 armed := n.armed }

/-- The uses that R460 lists as refused (rows 1 to 5, 9, 10 and 15), outside dual-instruction mode by the instruction
and inside it by the pair: a control transfer, trap or intovr in a delay slot (restriction a), wide operands in
registers of a wrong number, mode transitions that no source shows, restrictions c to f, the pixel size 11, a store to
data that a pfld still waits to deliver, and pairs that stand wrong, have an instruction in the wrong half, write one
element twice, call, or hold an instruction whose effect is a refusal. Which refusal is seen first is DEDUCED (log
entries 17, 40). The data paths of restriction d are GK8, PRESUMED (log entry 37), its exemption of f0 is the model's
choice (log entry 42), and data-path control 1111 of pfmam and pfmsm, which no decoded word has, stands as 1101 (log
entry 28). -/
def Obligations.RestrictedUsesAreRefused : Prop :=
  (∀ i s, (isControl i = true ∨ (∃ a b c, i = .trap a b c) ∨ i = .intovr) → s.mode = .single → s.armed = false →
    s.delay.isSome = true → exec i s = .refused .controlInSlot) ∧
  (∀ s, TransferReady s → exec (.calli 1) s = .refused .calliR1 ∧
    ∀ src1, src1 ≠ 1 → (s.R src1).toNat % 4 ≠ 0 → exec (.calli src1) s = .refused .misalignedTarget) ∧
  (∀ s, s.delay = none →
    let refuses (i : Instr) (r : Refusal) : Prop :=
      effect i s = .refuse r ∧ (s.mode = .single → s.armed = false → exec i s = .refused r)
    (∀ src1, (s.R src1).toNat % 4 ≠ 0 → refuses (.bri src1) .misalignedTarget) ∧
    (∀ src1 off, refuses (.bla src1 src1 off) .restrictionF)) ∧
  (∀ s, s.mode = .single →
    (∀ i, s.armed = true → dbit i = some false → exec i s = .refused .modeExcursion) ∧
    (∀ i, s.armed = true → isControl i = true → exec i s = .refused .controlInTransition)) ∧
  (∀ s,
    let refuses (i : Instr) (r : Refusal) : Prop :=
      effect i s = .refuse r ∧ (s.mode = .single → (s.armed = true → dbit i ≠ some false) → exec i s = .refused r)
    let unreported : Prop := s.fpPending = true → fsrFte s.fsr = false
    (∀ i, (∃ x ∈ doubleRegs i, x.toNat % 2 ≠ 0) ∨ (∃ x ∈ quadRegs i, x.toNat % 4 ≠ 0) →
      refuses i .registerAlignment) ∧
    (∀ x dest : Reg,
      refuses (.fldlR true x x dest) .restrictionF ∧ refuses (.fstlR true x x dest) .restrictionF ∧
      refuses (.pfldlR true x x dest) .restrictionF ∧ refuses (.pflddR true x x dest) .restrictionF ∧
      (dest.toNat % 2 = 0 →
        refuses (.flddR true x x dest) .restrictionF ∧ refuses (.fstdR true x x dest) .restrictionF) ∧
      (dest.toNat % 4 = 0 →
        refuses (.fldqR true x x dest) .restrictionF ∧ refuses (.fstqR true x x dest) .restrictionF)) ∧
    (∀ (d : Bool) (src1 src2 dest : Reg), dest ≠ 0 →
      (src1 = dest → refuses (.pfmulSs d src1 src2 dest) .restrictionC) ∧
      (dest.toNat % 2 = 0 → src1 = dest ∨ src1 = dest + 1 → refuses (.pfmulSd d src1 src2 dest) .restrictionC) ∧
      (src2.toNat % 2 = 0 → dest.toNat % 2 = 0 → src1 = dest →
        refuses (.pfmulDd d src1 src2 dest) .restrictionC ∧ refuses (.pfmul3Dd d src1 src2 dest) .restrictionC)) ∧
    (∀ (dpc : BitVec 4) (d : Bool) (src2 dest : Reg), dest ≠ 0 →
      let taken (path : DataPath) : Prop := path.m1 = .src1 ∨ path.kLoad ≠ .none
      (taken (dataPathA dpc) →
        refuses (.pfamSs dpc d dest src2 dest) .restrictionD ∧ refuses (.pfsmSs dpc d dest src2 dest) .restrictionD ∧
        (src2.toNat % 2 = 0 → dest.toNat % 2 = 0 →
          refuses (.pfamDd dpc d dest src2 dest) .restrictionD ∧
          refuses (.pfsmDd dpc d dest src2 dest) .restrictionD)) ∧
      (taken (dataPathM dpc) →
        refuses (.pfmamSs dpc d dest src2 dest) .restrictionD ∧ refuses (.pfmsmSs dpc d dest src2 dest) .restrictionD ∧
        (src2.toNat % 2 = 0 → dest.toNat % 2 = 0 →
          refuses (.pfmamDd dpc d dest src2 dest) .restrictionD ∧
          refuses (.pfmsmDd dpc d dest src2 dest) .restrictionD))) ∧
    (∀ (d : Bool) (src1 src2 dest : Reg), dest ≠ 0 → src1 = dest ∨ src2 = dest →
      refuses (.pfiaddSs d src1 src2 dest) .restrictionE ∧ refuses (.pfisubSs d src1 src2 dest) .restrictionE ∧
      (src1 = dest → refuses (.pfmovSs d src1 dest) .restrictionE) ∧
      (src1.toNat % 2 = 0 → src2.toNat % 2 = 0 → dest.toNat % 2 = 0 →
        refuses (.pfiaddDd d src1 src2 dest) .restrictionE ∧ refuses (.pfisubDd d src1 src2 dest) .restrictionE ∧
        refuses (.pfaddp d src1 src2 dest) .restrictionE ∧ refuses (.pfaddz d src1 src2 dest) .restrictionE ∧
        (src1 = dest → refuses (.pform d src1 dest) .restrictionE ∧ refuses (.pfmovDd d src1 dest) .restrictionE))) ∧
    (∀ (d : Bool) (src1 src2 dest : Reg), unreported → s.psr.ps = 3 → src1.toNat % 2 = 0 → src2.toNat % 2 = 0 →
      dest.toNat % 2 = 0 →
      refuses (.faddp d src1 src2 dest) .pixelSize ∧
      (dest = 0 ∨ src1 ≠ dest ∧ src2 ≠ dest → refuses (.pfaddp d src1 src2 dest) .pixelSize)) ∧
    (∀ (auto : Bool) (off : BitVec 13) (src2 dest : Reg), unreported → dest.toNat % 2 = 0 →
      let ea := BitVec.ofInt 32 (8 * off.toInt) + s.R src2
      s.accessible ea 8 →
      (s.psr.ps = 3 → refuses (.pstd auto off src2 dest) .pixelSize) ∧
      (∀ b k, pixelBytes s.psr.ps = some b → k < 8 / b → s.psr.pm.getLsbD k = true →
        s.pfldPending (ea + BitVec.ofNat 32 (k * b)) b = true →
        refuses (.pstd auto off src2 dest) .storeToPendingPfld)) ∧
    (∀ i ea n, storesMemory i = true → (∀ a b c e, i ≠ .pstd a b c e) → dataAccess s i = some (ea, n) → unreported →
      s.accessible ea n → s.pfldPending ea n = true → (effect i s).staticRefusal = none →
      refuses i .storeToPendingPfld)) ∧
  (∀ s, s.mode = .dual → s.interrupted = false →
    (s.pc.toNat % 8 ≠ 0 → step s = .refused .misalignedPair) ∧
    ∀ fi ci, s.pc.toNat % 8 = 0 → s.fetch s.pc = .instr fi → s.CoreHalf ci →
      (dbit fi = none ∨ (traits ci).fp = true → step s = .refused .pairHalves) ∧
      ∀ d, dbit fi = some d → (traits ci).fp = false →
        (s.armed = true → d = true → step s = .refused .modeExcursion) ∧
        (d = false → isControl ci = true → step s = .refused .controlInTransition) ∧
        ((s.armed = true → d = false) → (isControl ci = true → d = true) →
          (WritesOneElement s fi ci → step s = .refused .pairConflict) ∧
          (¬WritesOneElement s fi ci →
            (∀ r, effect fi s = .refuse r → r.static = true ∨ (effect ci s).staticRefusal = none →
              step s = .refused r) ∧
            ((effect fi s).staticRefusal = none →
              (∀ r, r.static = true → effect ci { s with free := (effect fi s).freeAfter s } = .refuse r →
                step s = .refused r) ∧
              (∀ sf c r, effect fi s = .ok sf c → effect ci { s with free := sf.free } = .refuse r →
                step s = .refused r) ∧
              (s.delay = none → (∃ off, ci = .call off) ∨ (∃ src1, ci = .calli src1) →
                step s = .refused .callInDual) ∧
              (s.delay.isSome = true → isControl ci = true ∨ (∃ a b c, ci = .trap a b c) ∨ ci = .intovr →
                step s = .refused .controlInSlot)))))

/-! ## Traps -/

/-- What the processor does when it takes a trap, and that a trap in a locked sequence is refused. The saved bits and
the vector are GK12, PRESUMED (log entry 11), the latch GK10 (log entry 12); the notes of delay slots and of lost
contexts are the model's own (log entries 13, 14). -/
def Obligations.TrapEntrySavesAndVectors : Prop :=
  ∀ (s : State) (c : Cause) (a : Word) (knf : Bool),
    (s.dirbase.bl = true → s.takeTrap c a knf = .refused .trapInLockedSequence) ∧
    (s.dirbase.bl = false → ∃ t : State, s.takeTrap c a knf = .next t ∧
      t = { s with psr := t.psr, firLatched := some a, slotFirs := t.slotFirs, frames := t.frames, mode := .single,
                   armed := false, delay := none, delayMode := none, skipCore := false, pc := 0xFFFFFF00#32 } ∧
      (let inSlot := s.delay.isSome || s.skipCore
       (∀ x, x ∈ t.slotFirs ↔ x ∈ s.slotFirs ∨ x = a ∧ inSlot = true) ∧
       t.frames = .taken a inSlot :: (if s.psr.anyTrap then [.lost] else s.frames)) ∧
      t.psr = { s.psr with pu := s.psr.u, pim := s.psr.im, u := false, im := false, dim := decide (s.mode = .dual),
                           ds := s.armed, knf := knf, it := t.psr.it, inn := t.psr.inn, iat := t.psr.iat,
                           dat := t.psr.dat, ft := t.psr.ft } ∧
      (t.psr.it = true ↔ s.psr.it = true ∨ c = .it) ∧ (t.psr.inn = true ↔ s.psr.inn = true ∨ c = .inn) ∧
      (t.psr.iat = true ↔ s.psr.iat = true ∨ c = .iat) ∧ (t.psr.dat = true ↔ s.psr.dat = true ∨ c = .dat) ∧
      (t.psr.ft = true ↔ s.psr.ft = true ∨ c = .ft))

/-- A data access that is misaligned or outside populated memory takes the trap DAT, and nothing but what trap entry
writes has changed: no register, no base register, no pipeline, no byte of memory. What entry itself writes is
PRESUMED (log entry 11), the order of checks DEDUCED (log entry 40); that pst.d needs all its eight bytes populated is
the model's choice (log entry 22). -/
def Obligations.BadDataAccessTrapsBeforeAnyWrite : Prop :=
  ∀ i s ea n, dataAccess s i = some (ea, n) → ¬s.accessible ea n → DataReady s → s.dirbase.bl = false →
    (effect i s).staticRefusal = none → exec i s = .next (s.enterTrap .dat s.pc false)

/-- With FTE = 1 a pending result exception is reported by the next floating-point-format instruction, fst or pst.d,
before any of its effects. A fld, pfld or ixfr reports it or runs, by a free choice; where it runs it ends as it does
with nothing pending, and the exception stays pending. What entry writes is PRESUMED (log entry 11), the order of checks
DEDUCED (log entry 40); the form of the choice is the model's (log entry 31). -/
def Obligations.PendingResultExceptionIsReported : Prop :=
  (∀ i s, reportsResult i = true → s.mode = .single → (s.armed = true → dbit i ≠ some false) → s.fpPending = true →
    fsrFte s.fsr = true → s.dirbase.bl = false → (effect i s).staticRefusal = none →
    exec i s = .next ({ s with fpPending := false }.enterTrap .ft s.pc false)) ∧
  ∀ i s, mayReport i = true → s.mode = .single → s.fpPending = true → fsrFte s.fsr = true →
    let quiet := { s.tick with fpPending := false }
    (Config.freeBool s.free = true → s.dirbase.bl = false → (effect i s).staticRefusal = none →
      exec i s = .next (quiet.enterTrap .ft s.pc false)) ∧
    (Config.freeBool s.free = false →
      (∀ u, exec i quiet = .next u → exec i s = .next { u with fpPending := true }) ∧
      ∀ r, exec i quiet = .refused r → exec i s = .refused r)

/-- With FTE = 1 every instruction whose operands give a source exception traps before it writes anything: the scalar
operations, the compares, the pipelined adder and multiplier, and the dual operations for either unit. A conversion to
a double-precision entry may draw a free value first. What entry writes is PRESUMED (log entry 11), and so are the data
paths but 1001 of pfam (GK8, log entry 37); which operands are exceptional, and that a unit with an undefined operand
reports nothing, are the model's choices (log entries 8, 10). Data-path control 1111 of pfmam and pfmsm, which no decoded
word has, stands as 1101 (log entry 28). -/
def Obligations.SourceExceptionTrapsBeforeAnyWrite : Prop :=
  ∀ (src1 src2 dest : Reg) (d : Bool) (s : State), FpReady s d → s.dirbase.bl = false → fsrFte s.fsr = true →
    let traps (i : Instr) (se : Bool) : Prop := se = true → exec i s = .next (s.enterTrap .ft s.pc false)
    let two (i : Instr) (f : Prec → Prec → FpEnv → DWord → DWord → FpOut) (sp rp : Prec) : Prop :=
      traps i (f sp rp s.fpEnv (s.fread src1 sp) (s.fread src2 sp)).se
    let one (i : Instr) (f : Prec → FpEnv → DWord → FpOut) (sp : Prec) : Prop :=
      traps i (f sp s.fpEnv (s.fread src1 sp)).se
    let draws (i : Instr) (f : Prec → FpEnv → DWord → FpOut) (sp : Prec) : Prop :=
      (f sp s.fpEnv (s.fread src1 sp)).se = true → exec i s = .next (s.tick.enterTrap .ft s.pc false)
    let move (i : Instr) (sp rp : Prec) : Prop := traps i (fpCvt sp rp s.fpEnv (s.fread src1 sp)).se
    let seed (i : Instr) (f : Prec → Prec → FpEnv → DWord → DWord → FpOut) (sp rp : Prec) : Prop :=
      traps i (f sp rp s.fpEnv (s.fread src2 sp) s.drawn).se
    let compares (i : Instr) (f : Prec → FpEnv → DWord → DWord → FpCond) (sp : Prec) : Prop :=
      traps i (f sp s.fpEnv (s.fread src1 sp) (s.fread src2 sp)).se
    let multiplies (i : Instr) (three : Bool) (sp rp : Prec) : Prop :=
      (dest = 0 ∨ regsOverlap sp src1 rp dest = false) → s.mPipe.ready three ≠ none → two i fpMul sp rp
    let dual (i : Instr) (f : Prec → Prec → FpEnv → DWord → DWord → FpOut) (path : DataPath) (p : Prec) : Prop :=
      dualSourceOk path p src1 dest = true → ∀ m, s.mPipe.ready p.threeStage = some m →
        let operand := s.dualOperand m p src1 src2
        (∃ o, o.se = true ∧ (dualAnswer fpMul s.fpEnv p (operand path.m1) (operand path.m2) = some o ∨
          dualAnswer f s.fpEnv p (operand path.a1) (operand path.a2) = some o)) → traps i true
    two (.faddSs d src1 src2 dest) fpAdd .s .s ∧ two (.fsubSs d src1 src2 dest) fpSub .s .s ∧
    two (.fmulSs d src1 src2 dest) fpMul .s .s ∧
    two (.pfaddSs d src1 src2 dest) fpAdd .s .s ∧ two (.pfsubSs d src1 src2 dest) fpSub .s .s ∧
    one (.fixSs d src1 dest) fpFix .s ∧ one (.ftruncSs d src1 dest) fpTrunc .s ∧
    one (.pfixSs d src1 dest) fpFix .s ∧ one (.pftruncSs d src1 dest) fpTrunc .s ∧
    move (.famovSs d src1 dest) .s .s ∧ move (.pfamovSs d src1 dest) .s .s ∧
    seed (.frcpSs d src2 dest) fpRcp .s .s ∧ seed (.frsqrSs d src2 dest) fpRsqr .s .s ∧
    compares (.pfgtSs d src1 src2 dest) fpGt .s ∧ compares (.pfleSs d src1 src2 dest) fpLe .s ∧
    compares (.pfeqSs d src1 src2 dest) fpEq .s ∧
    multiplies (.pfmulSs d src1 src2 dest) true .s .s ∧
    (∀ dpc, dual (.pfamSs dpc d src1 src2 dest) fpAdd (dataPathA dpc) .s ∧
      dual (.pfsmSs dpc d src1 src2 dest) fpSub (dataPathA dpc) .s ∧
      dual (.pfmamSs dpc d src1 src2 dest) fpAdd (dataPathM dpc) .s ∧
      dual (.pfmsmSs dpc d src1 src2 dest) fpSub (dataPathM dpc) .s) ∧
    (dest.toNat % 2 = 0 →
      two (.faddSd d src1 src2 dest) fpAdd .s .d ∧ two (.fsubSd d src1 src2 dest) fpSub .s .d ∧
      two (.fmulSd d src1 src2 dest) fpMul .s .d ∧
      two (.pfaddSd d src1 src2 dest) fpAdd .s .d ∧ two (.pfsubSd d src1 src2 dest) fpSub .s .d ∧
      one (.fixSd d src1 dest) fpFix .s ∧ one (.ftruncSd d src1 dest) fpTrunc .s ∧
      draws (.pfixSd d src1 dest) fpFix .s ∧ draws (.pftruncSd d src1 dest) fpTrunc .s ∧
      move (.famovSd d src1 dest) .s .d ∧ move (.pfamovSd d src1 dest) .s .d ∧
      move (.fmovSd d src1 dest) .s .d ∧ move (.pfmovSd d src1 dest) .s .d ∧
      seed (.frcpSd d src2 dest) fpRcp .s .d ∧ seed (.frsqrSd d src2 dest) fpRsqr .s .d ∧
      multiplies (.pfmulSd d src1 src2 dest) true .s .d) ∧
    (src1.toNat % 2 = 0 →
      move (.famovDs d src1 dest) .d .s ∧ move (.pfamovDs d src1 dest) .d .s ∧
      move (.fmovDs d src1 dest) .d .s ∧ move (.pfmovDs d src1 dest) .d .s) ∧
    (src2.toNat % 2 = 0 → dest.toNat % 2 = 0 →
      seed (.frcpDd d src2 dest) fpRcp .d .d ∧ seed (.frsqrDd d src2 dest) fpRsqr .d .d) ∧
    (src1.toNat % 2 = 0 → dest.toNat % 2 = 0 →
      one (.fixDd d src1 dest) fpFix .d ∧ one (.ftruncDd d src1 dest) fpTrunc .d ∧
      draws (.pfixDd d src1 dest) fpFix .d ∧ draws (.pftruncDd d src1 dest) fpTrunc .d ∧
      move (.famovDd d src1 dest) .d .d ∧ move (.pfamovDd d src1 dest) .d .d ∧
      (src2.toNat % 2 = 0 →
        two (.faddDd d src1 src2 dest) fpAdd .d .d ∧ two (.fsubDd d src1 src2 dest) fpSub .d .d ∧
        two (.fmulDd d src1 src2 dest) fpMul .d .d ∧
        two (.pfaddDd d src1 src2 dest) fpAdd .d .d ∧ two (.pfsubDd d src1 src2 dest) fpSub .d .d ∧
        compares (.pfgtDd d src1 src2 dest) fpGt .d ∧ compares (.pfleDd d src1 src2 dest) fpLe .d ∧
        compares (.pfeqDd d src1 src2 dest) fpEq .d ∧
        multiplies (.pfmulDd d src1 src2 dest) false .d .d ∧ multiplies (.pfmul3Dd d src1 src2 dest) true .d .d ∧
        ∀ dpc, dual (.pfamDd dpc d src1 src2 dest) fpAdd (dataPathA dpc) .d ∧
          dual (.pfsmDd dpc d src1 src2 dest) fpSub (dataPathA dpc) .d ∧
          dual (.pfmamDd dpc d src1 src2 dest) fpAdd (dataPathM dpc) .d ∧
          dual (.pfmsmDd dpc d src1 src2 dest) fpSub (dataPathM dpc) .d))

/-! ## Integer arithmetic -/

/-- adds: the sum modulo 2^32; OF exactly when the signed sum overflows; CC the sign of the true sum. That CC is the sign
of the true and not of the wrapped sum is the spec's own decision D8 (R181), not the source's words. -/
def Obligations.AddsWritesSumAndFlags : Prop :=
  ∀ (src1 src2 dest : Reg) (imm : BitVec 16) (s : State), CoreReady s →
    let after (a b : Int) : State :=
      { s with
        epsr := { s.epsr with of := decide (a + b < -2 ^ 31 ∨ 2 ^ 31 ≤ a + b) }
        psr := { s.psr with cc := decide (a + b < 0) } }.setR dest (BitVec.ofInt 32 (a + b))
    Gives (.addsR src1 src2 dest) false s (after (s.R src1).toInt (s.R src2).toInt) ∧
    Gives (.addsI imm src2 dest) false s (after imm.toInt (s.R src2).toInt)

/-- subs: the first operand minus the second modulo 2^32; OF exactly on signed overflow; CC when the second is
larger. -/
def Obligations.SubsWritesDifferenceAndFlags : Prop :=
  ∀ (src1 src2 dest : Reg) (imm : BitVec 16) (s : State), CoreReady s →
    let after (a b : Int) : State :=
      { s with
        epsr := { s.epsr with of := decide (a - b < -2 ^ 31 ∨ 2 ^ 31 ≤ a - b) }
        psr := { s.psr with cc := decide (a < b) } }.setR dest (BitVec.ofInt 32 (a - b))
    Gives (.subsR src1 src2 dest) false s (after (s.R src1).toInt (s.R src2).toInt) ∧
    Gives (.subsI imm src2 dest) false s (after imm.toInt (s.R src2).toInt)

/-- addu and subu: OF and CC are the carry of the sum; a difference has CC when there is no borrow and OF when there is
one. The immediate is sign-extended. -/
def Obligations.AdduAndSubuWriteCarries : Prop :=
  ∀ (src1 src2 dest : Reg) (imm : BitVec 16) (s : State), CoreReady s →
    let sum (a b : Nat) : State :=
      { s with
        epsr := { s.epsr with of := decide (2 ^ 32 ≤ a + b) }
        psr := { s.psr with cc := decide (2 ^ 32 ≤ a + b) } }.setR dest (BitVec.ofNat 32 (a + b))
    let difference (a b : Nat) : State :=
      { s with
        epsr := { s.epsr with of := decide (a < b) }
        psr := { s.psr with cc := decide (b ≤ a) } }.setR dest (BitVec.ofInt 32 (a - b))
    Gives (.adduR src1 src2 dest) false s (sum (s.R src1).toNat (s.R src2).toNat) ∧
    Gives (.adduI imm src2 dest) false s (sum (imm.signExtend 32).toNat (s.R src2).toNat) ∧
    Gives (.subuR src1 src2 dest) false s (difference (s.R src1).toNat (s.R src2).toNat) ∧
    Gives (.subuI imm src2 dest) false s (difference (imm.signExtend 32).toNat (s.R src2).toNat)

/-- The twelve logical instructions: each bit of the result, CC when the result is zero, OF untouched. -/
def Obligations.LogicalInstructionsWorkBitwise : Prop :=
  ∀ (src1 src2 dest : Reg) (imm : BitVec 16) (s : State), CoreReady s →
    let is (i : Instr) (bit : Nat → Bool → Bool) : Prop :=
      ∃ v : Word, (∀ k < 32, v.getLsbD k = bit k ((s.R src2).getLsbD k)) ∧
        Gives i false s ({ s with psr := { s.psr with cc := decide (v.toNat = 0) } }.setR dest v)
    let a (k : Nat) : Bool := (s.R src1).getLsbD k
    let low (k : Nat) : Bool := decide (k < 16) && imm.getLsbD k
    let high (k : Nat) : Bool := decide (16 ≤ k) && imm.getLsbD (k - 16)
    is (.andR src1 src2 dest) (fun k b => a k && b) ∧ is (.andI imm src2 dest) (fun k b => low k && b) ∧
    is (.andh imm src2 dest) (fun k b => high k && b) ∧
    is (.andnotR src1 src2 dest) (fun k b => !a k && b) ∧ is (.andnotI imm src2 dest) (fun k b => !low k && b) ∧
    is (.andnoth imm src2 dest) (fun k b => !high k && b) ∧
    is (.orR src1 src2 dest) (fun k b => a k || b) ∧ is (.orI imm src2 dest) (fun k b => low k || b) ∧
    is (.orh imm src2 dest) (fun k b => high k || b) ∧
    is (.xorR src1 src2 dest) (fun k b => a k != b) ∧ is (.xorI imm src2 dest) (fun k b => low k != b) ∧
    is (.xorh imm src2 dest) (fun k b => high k != b)

/-- shl, shr and shra: by the low five bits of the first operand; shr also loads SC; no flag changes. That the count is
the low five bits is GK20 with decision D6, PRESUMED (log entry 37). -/
def Obligations.ShiftsMultiplyAndDivide : Prop :=
  ∀ (src1 src2 dest : Reg) (imm : BitVec 16) (s : State), CoreReady s →
    let b := s.R src2
    let left (n : Nat) : State := s.setR dest (BitVec.ofNat 32 (b.toNat * 2 ^ n))
    let right (n : Nat) : State :=
      { s with psr := { s.psr with sc := BitVec.ofNat 5 n } }.setR dest (BitVec.ofNat 32 (b.toNat / 2 ^ n))
    let arithmetic (n : Nat) : State := s.setR dest (BitVec.ofInt 32 (b.toInt / 2 ^ n))
    Gives (.shlR src1 src2 dest) false s (left ((s.R src1).toNat % 32)) ∧
    Gives (.shlI imm src2 dest) false s (left (imm.toNat % 32)) ∧
    Gives (.shrR src1 src2 dest) false s (right ((s.R src1).toNat % 32)) ∧
    Gives (.shrI imm src2 dest) false s (right (imm.toNat % 32)) ∧
    Gives (.shraR src1 src2 dest) false s (arithmetic ((s.R src1).toNat % 32)) ∧
    Gives (.shraI imm src2 dest) false s (arithmetic (imm.toNat % 32))

/-- shrd: the low 32 bits of the 64-bit operand shifted right by SC; mov copies; nop and fnop do nothing. fnop, and it
alone of the shrd words, carries a D-bit. That only the word fnop carries a D-bit is DEDUCED (log entry 33). -/
def Obligations.ShrdShiftsTheDoubleWord : Prop :=
  ∀ (src1 src2 dest : Reg) (d : Bool) (s : State), CoreReady s →
    (let isFnop := src1 = 0 ∧ src2 = 0 ∧ dest = 0
     (isFnop → s.armed = true → d = true) →
     Gives (.shrd d src1 src2 dest) (decide isFnop && d) s
       (s.setR dest (BitVec.ofNat 32
         (((s.R src1).toNat * 2 ^ 32 + (s.R src2).toNat) / 2 ^ s.psr.sc.toNat)))) ∧
    Gives (.mov src2 dest) false s (s.setR dest (s.R src2)) ∧
    Gives .nop false s s ∧
    ((s.armed = true → d = true) → Gives (.fnop d) d s s)

/-! ## Loads and stores -/

/-- ld.b, ld.s and ld.l: little-endian, 8- and 16-bit values sign-extended. The sign extension is GK19 with decision D7,
PRESUMED (log entry 37). Bytes that flush marked are free (log entry 24). -/
def Obligations.IntegerLoadsReadMemory : Prop :=
  ∀ (src1 src2 dest : Reg) (off : BitVec 16) (off' : BitVec 15) (s : State), CoreReady s →
    let x := s.R src1 + s.R src2
    let byte (ea : Word) (k : Nat) : Byte := s.byteAt (ea.toNat + k) k
    let reads (i : Instr) (ea : Word) (n : Nat) (v : Word) : Prop :=
      s.accessible ea n → Gives i false s ((s.afterLoad ea n).setR dest v)
    reads (.ldbR src1 src2 dest) x 1 (BitVec.ofInt 32 (byte x 0).toInt) ∧
    reads (.ldsR src1 src2 dest) x 2 (BitVec.ofInt 32 (byte x 1 ++ byte x 0).toInt) ∧
    reads (.ldlR src1 src2 dest) x 4 (s.loadWord x 0) ∧
    (let y := off.signExtend 32 + s.R src2
     reads (.ldbI off src2 dest) y 1 (BitVec.ofInt 32 (byte y 0).toInt)) ∧
    (let y := BitVec.ofInt 32 (2 * off'.toInt) + s.R src2
     reads (.ldsI off' src2 dest) y 2 (BitVec.ofInt 32 (byte y 1 ++ byte y 0).toInt) ∧
     reads (.ldlI off' src2 dest) y 4 (s.loadWord y 0))

/-- st.b, st.s and st.l write the low bytes of the register, little-endian, and no other byte of memory. The notes of
stored words and of bytes flush marked are the model's own (log entries 23, 24, 25). -/
def Obligations.IntegerStoresWriteMemory : Prop :=
  ∀ (src1 src2 : Reg) (off : BitVec 16) (off' : BitVec 15) (s : State), CoreReady s → MemoryCanonical s →
    let writes (i : Instr) (ea : Word) (n : Nat) : Prop :=
      s.accessible ea n → s.pfldPending ea n = false →
        Stores i s ea n (fun k => (s.R src1).extractLsb' (8 * k) 8) false 0
    writes (.stb src1 off src2) (off.signExtend 32 + s.R src2) 1 ∧
    writes (.sts src1 off' src2) (BitVec.ofInt 32 (2 * off'.toInt) + s.R src2) 2 ∧
    writes (.stl src1 off' src2) (BitVec.ofInt 32 (2 * off'.toInt) + s.R src2) 4

/-- fld.l, fld.d and fld.q fill one, two or four registers, the lowest address into the lowest register; with
autoincrement the base register receives the effective address. -/
def Obligations.FloatingLoadsReadMemory : Prop :=
  ∀ (auto : Bool) (src1 src2 dest : Reg) (off : BitVec 14) (off' : BitVec 13) (s : State), DataReady s →
    let reads (i : Instr) (ea : Word) (n : Nat) (fill : State → State) : Prop :=
      s.accessible ea n → Gives i false s ((fill (s.afterLoad ea n)).withBase auto src2 ea)
    let one (ea : Word) (t : State) : State := t.setFS dest (s.loadWord ea 0)
    let two (ea : Word) (t : State) : State := (one ea t).setFS (dest + 1) (s.loadWord ea 4)
    let four (ea : Word) (t : State) : State :=
      ((two ea t).setFS (dest + 2) (s.loadWord ea 8)).setFS (dest + 3) (s.loadWord ea 12)
    let x := s.R src1 + s.R src2
    let y := BitVec.ofInt 32 (4 * off.toInt) + s.R src2
    let z := BitVec.ofInt 32 (8 * off'.toInt) + s.R src2
    let indexed := auto = true → src1 ≠ src2
    (indexed → reads (.fldlR auto src1 src2 dest) x 4 (one x)) ∧ reads (.fldlI auto off src2 dest) y 4 (one y) ∧
    (dest.toNat % 2 = 0 → (indexed → reads (.flddR auto src1 src2 dest) x 8 (two x)) ∧
      reads (.flddI auto off' src2 dest) z 8 (two z)) ∧
    (dest.toNat % 4 = 0 → (indexed → reads (.fldqR auto src1 src2 dest) x 16 (four x)) ∧
      reads (.fldqI auto off' src2 dest) z 16 (four z))

/-- fst.l, fst.d and fst.q write one, two or four registers, the lowest register to the lowest address, and no other
byte of memory. The notes of stored words and of bytes flush marked are the model's own (log entries 23, 24, 25). -/
def Obligations.FloatingStoresWriteMemory : Prop :=
  ∀ (auto : Bool) (src1 src2 dest : Reg) (off : BitVec 14) (off' : BitVec 13) (s : State), DataReady s →
    MemoryCanonical s →
    let writes (i : Instr) (ea : Word) (n : Nat) : Prop :=
      s.accessible ea n → s.pfldPending ea n = false →
        Stores i s ea n (fun k => (s.FS (dest + BitVec.ofNat 5 (k / 4))).extractLsb' (8 * (k % 4)) 8) auto src2
    let x := s.R src1 + s.R src2
    let y := BitVec.ofInt 32 (4 * off.toInt) + s.R src2
    let z := BitVec.ofInt 32 (8 * off'.toInt) + s.R src2
    let indexed := auto = true → src1 ≠ src2
    (indexed → writes (.fstlR auto src1 src2 dest) x 4) ∧ writes (.fstlI auto off src2 dest) y 4 ∧
    (dest.toNat % 2 = 0 → (indexed → writes (.fstdR auto src1 src2 dest) x 8) ∧
      writes (.fstdI auto off' src2 dest) z 8) ∧
    (dest.toNat % 4 = 0 → (indexed → writes (.fstqR auto src1 src2 dest) x 16) ∧
      writes (.fstqI auto off' src2 dest) z 16)

/-- pfld.l and pfld.d: the third previous pfld's data goes to fdest with its own width, an undefined entry as a free
value; this pfld's data, read now, enters the load pipeline. Reading at issue, and the width of an undefined
entry, are the model's choices (log entry 25). -/
def Obligations.PipelinedLoadsDeliverTheThirdPrevious : Prop :=
  ∀ (auto : Bool) (src1 src2 dest : Reg) (off : BitVec 14) (off' : BitVec 13) (s : State), DataReady s →
    let issues (i : Instr) (p : Prec) (ea : Word) (data : DWord) : Prop :=
      s.accessible ea p.bytes →
      let u := s.afterLoad ea p.bytes
      let enter (t : State) : State := { t with lPipe := ⟨.val ea data p, s.lPipe.q1, s.lPipe.q2⟩ }
      (∀ a v q, s.lPipe.q3 = .val a v q → q.fits dest = true →
        Gives i false s ((enter (u.fwrite dest q v)).withBase auto src2 ea)) ∧
      (s.lPipe.q3 = .undef → (dest = 0 ∨ dest = 1) → Gives i false s ((enter u).withBase auto src2 ea)) ∧
      (s.lPipe.q3 = .undef → ¬(dest = 0 ∨ dest = 1) → p.fits dest = true →
        Gives i false s ((enter (u.tick.fwrite dest p u.drawn)).withBase auto src2 ea))
    let x := s.R src1 + s.R src2
    let y := BitVec.ofInt 32 (4 * off.toInt) + s.R src2
    let z := BitVec.ofInt 32 (8 * off'.toInt) + s.R src2
    let indexed := auto = true → src1 ≠ src2
    (indexed → issues (.pfldlR auto src1 src2 dest) .s x ((s.loadWord x 0).setWidth 64)) ∧
    issues (.pfldlI auto off src2 dest) .s y ((s.loadWord y 0).setWidth 64) ∧
    (indexed → issues (.pflddR auto src1 src2 dest) .d x (s.loadWord x 4 ++ s.loadWord x 0)) ∧
    issues (.pflddI auto off' src2 dest) .d z (s.loadWord z 4 ++ s.loadWord z 0)

/-- pst.d writes exactly the pixels whose PM bit is set, then shifts PM right by the number of pixels in 64 bits. The
pixel codes are GK5 (log entry 37); the notes of stored words and of bytes flush marked, and the refusal where a pfld
waits, are the model's own (log entries 23, 24, 25). All eight bytes must be populated: the model's choice (log entry
22). -/
def Obligations.PixelStoreWritesTheMaskedPixels : Prop :=
  ∀ (auto : Bool) (src2 dest : Reg) (off : BitVec 13) (s : State) (b : Nat), DataReady s → MemoryCanonical s →
    pixelBytes s.psr.ps = some b → dest.toNat % 2 = 0 →
    let ea := BitVec.ofInt 32 (8 * off.toInt) + s.R src2
    s.accessible ea 8 →
    (∀ i < 8 / b, s.psr.pm.getLsbD i = true → s.pfldPending (ea + BitVec.ofNat 32 (i * b)) b = false) →
    let written (x : Nat) : Prop :=
      ea.toNat ≤ x ∧ x < ea.toNat + 8 ∧ s.psr.pm.getLsbD ((x - ea.toNat) / b) = true
    ∃ m u w,
      Gives (.pstd auto off src2 dest) false s
        (({ s.afterAccess with
            mem := m, undef := u, stored := w,
            psr := { s.psr with pm := BitVec.ofNat 8 (s.psr.pm.toNat / 2 ^ (8 / b)) } }).withBase auto src2 ea) ∧
      (∀ x, written x → Memory.get m x = (s.FD dest).extractLsb' (8 * (x - ea.toNat)) 8) ∧
      (∀ x, ¬written x → Memory.get m x = Memory.get s.mem x) ∧
      (∀ x, x ∈ u ↔ x ∈ s.undef ∧ ¬written x) ∧
      (∀ x, x ∈ w ↔ x ∈ s.stored ∨ x % 4 = 0 ∧ ∃ k < 4, written (x + k))

/-- flush marks the 32 bytes of the block undefined for later loads and changes no byte of memory. What a later load
reads is DEDUCED (log entry 24), the block size GK14 (log entry 37). -/
def Obligations.FlushLeavesMemoryAndMarksTheBlock : Prop :=
  ∀ (auto : Bool) (src2 : Reg) (off : BitVec 13) (s : State), CoreReady s →
    let ea := BitVec.ofInt 32 (8 * off.toInt) + s.R src2
    ∃ u, Gives (.flush auto off src2) false s ({ s with undef := u }.withBase auto src2 ea) ∧
      (∀ x, x ∈ u ↔ x ∈ s.undef ∨ x / 32 = ea.toNat / 32)

/-- ixfr copies an integer register to a floating-point register, fxfr the other way; fxfr leaves the graphics
pipeline undefined. -/
def Obligations.TransfersBetweenRegisterFiles : Prop :=
  ∀ (src1 dest : Reg) (d : Bool) (s : State),
    (DataReady s → Gives (.ixfr src1 dest) false s (s.setFS dest (s.R src1))) ∧
    (FpReady s d → Gives (.fxfr d src1 dest) d s ({ s with gPipe := .undef }.setR dest (s.FS src1)))

/-! ## Control transfers -/

/-- bc, bnc, bte and btne branch at once when their condition holds; bc.t and bnc.t execute one more instruction first
when taken and skip it when not. -/
def Obligations.ConditionalBranchesGoWhereTheyShould : Prop :=
  ∀ (off : BitVec 26) (off' : BitVec 16) (src1 src2 : Reg) (imm : BitVec 5) (s : State), TransferReady s →
    let near (i : Instr) (taken : Prop) (target : Word) : Prop :=
      (taken → Transfers i s s target none) ∧ (¬taken → Transfers i s s (s.pc + 4) none)
    let slot (i : Instr) (taken : Prop) (target : Word) : Prop :=
      (taken → Transfers i s s (s.pc + 4) (some target)) ∧ (¬taken → Transfers i s s (s.pc + 8) none)
    near (.bc off) (s.psr.cc = true) (s.branchTarget off.toInt) ∧
    near (.bnc off) (s.psr.cc = false) (s.branchTarget off.toInt) ∧
    slot (.bcT off) (s.psr.cc = true) (s.branchTarget off.toInt) ∧
    slot (.bncT off) (s.psr.cc = false) (s.branchTarget off.toInt) ∧
    near (.bteR src1 src2 off') (s.R src1 = s.R src2) (s.branchTarget off'.toInt) ∧
    near (.btneR src1 src2 off') (s.R src1 ≠ s.R src2) (s.branchTarget off'.toInt) ∧
    near (.bteI imm src2 off') (imm.toNat = (s.R src2).toNat) (s.branchTarget off'.toInt) ∧
    near (.btneI imm src2 off') (imm.toNat ≠ (s.R src2).toNat) (s.branchTarget off'.toInt)

/-- br, call and calli execute one more instruction before the target; call and calli leave the return address, that
of the instruction after the slot, in r1, and calli uses the original contents of its register. calli [r1] is refused.
-/
def Obligations.BranchesAndCallsAreDelayed : Prop :=
  ∀ (off : BitVec 26) (src1 : Reg) (s : State), TransferReady s →
    Transfers (.br off) s s (s.pc + 4) (some (s.branchTarget off.toInt)) ∧
    Transfers (.call off) s (s.setR 1 (s.pc + 8)) (s.pc + 4) (some (s.branchTarget off.toInt)) ∧
    (src1 ≠ 1 → (s.R src1).toNat % 4 = 0 →
      Transfers (.calli src1) s (s.setR 1 (s.pc + 8)) (s.pc + 4) (some (s.R src1))) ∧
    exec (.calli 1) s = .refused .calliR1

/-- bri with no trap bit set is a delayed indirect jump that leaves psr alone. With a trap bit set it returns from the
trap: PU to U, PIM to IM, the trap bits cleared, and DS and DIM select the mode that holds from the target on. A
misaligned target, a trap return with KNF = 1, one that would resume in a delay slot, and one whose context a nested
trap has overwritten are refused. The trap bits are GK2 (log entry 5); how the model knows slots and lost contexts is
DEDUCED (log entries 13, 14, 15). -/
def Obligations.BriJumpsOrReturnsFromTrap : Prop :=
  ∀ (src1 : Reg) (s : State), TransferReady s →
    let target := s.R src1
    let resumesInSlot : Prop := match s.frames with
      | .taken a inSlot :: _ => if a = target then inSlot = true else target ∈ s.slotFirs
      | _ => target ∈ s.slotFirs
    let trapped := s.psr.it = true ∨ s.psr.inn = true ∨ s.psr.iat = true ∨ s.psr.dat = true ∨ s.psr.ft = true
    (target.toNat % 4 ≠ 0 → exec (.bri src1) s = .refused .misalignedTarget) ∧
    (target.toNat % 4 = 0 → ¬trapped → Transfers (.bri src1) s s (s.pc + 4) (some target)) ∧
    (target.toNat % 4 = 0 → trapped → s.psr.knf = true → exec (.bri src1) s = .refused .returnWithKnf) ∧
    (target.toNat % 4 = 0 → trapped → s.psr.knf = false → resumesInSlot → exec (.bri src1) s = .refused .returnIntoSlot) ∧
    (target.toNat % 4 = 0 → trapped → s.psr.knf = false → ¬resumesInSlot → s.frames.head? = some .lost →
      exec (.bri src1) s = .refused .outerContextLost) ∧
    (target.toNat % 4 = 0 → trapped → s.psr.knf = false → ¬resumesInSlot → s.frames.head? ≠ some .lost →
      exec (.bri src1) s = .next { s with
        psr := { s.psr with u := s.psr.pu, im := s.psr.pim, it := false, inn := false, iat := false, dat := false,
                            ft := false }
        frames := s.frames.tail
        pc := s.pc + 4
        delay := some target
        delayMode := some (match s.psr.ds, s.psr.dim with
          | true, false => ⟨.single, true⟩
          | true, true => ⟨.dual, true⟩
          | false, true => ⟨.dual, false⟩
          | false, false => ⟨.single, false⟩)
        skipCore := false })

/-- bla: the old LCC decides, LCC receives whether the true sum is not negative, the second register the sum, and the
slot executes in both arms. -/
def Obligations.BlaAddsAndBranchesOnTheOldLcc : Prop :=
  ∀ (src1 src2 : Reg) (off : BitVec 16) (s : State), TransferReady s → src1 ≠ src2 →
    let sum := (s.R src1).toInt + (s.R src2).toInt
    Transfers (.bla src1 src2 off) s
      ({ s with psr := { s.psr with lcc := decide (0 ≤ sum) } }.setR src2 (BitVec.ofInt 32 sum)) (s.pc + 4)
      (some (if s.psr.lcc then s.branchTarget off.toInt else s.pc + 8))

/-! ## System instructions -/

/-- ld.c returns each control register: psr, dirbase and db with every field in its place, fir the address latched by
the last trap once and its own address otherwise, fsr and epsr with the fields that rules write. Bit positions are
PRESUMED (log entry 5), fir is GK10 (log entry 12), other bits of fsr and epsr are free (log entry 6). -/
def Obligations.LoadControlReadsTheRegisters : Prop :=
  ∀ (dest : Reg) (s : State), CoreReady s →
    Gives (.ldc .fir dest) false s
      ({ s with firLatched := none }.setR dest (match s.firLatched with | some a => a | none => s.pc)) ∧
    Gives (.ldc .db dest) false s (s.setR dest s.db) ∧
    (∃ v : Word, Gives (.ldc .psr dest) false s (s.setR dest v) ∧
      v.getLsbD 0 = s.psr.br ∧ v.getLsbD 1 = s.psr.bw ∧ v.getLsbD 2 = s.psr.cc ∧ v.getLsbD 3 = s.psr.lcc ∧
      v.getLsbD 4 = s.psr.im ∧ v.getLsbD 5 = s.psr.pim ∧ v.getLsbD 6 = s.psr.u ∧ v.getLsbD 7 = s.psr.pu ∧
      v.getLsbD 8 = s.psr.it ∧ v.getLsbD 9 = s.psr.inn ∧ v.getLsbD 10 = s.psr.iat ∧ v.getLsbD 11 = s.psr.dat ∧
      v.getLsbD 12 = s.psr.ft ∧ v.getLsbD 13 = s.psr.ds ∧ v.getLsbD 14 = s.psr.dim ∧ v.getLsbD 15 = s.psr.knf ∧
      v.extractLsb' 17 5 = s.psr.sc ∧ v.extractLsb' 22 2 = s.psr.ps ∧ v.extractLsb' 24 8 = s.psr.pm) ∧
    (∃ v : Word, Gives (.ldc .dirbase dest) false s (s.setR dest v) ∧
      v.getLsbD 0 = s.dirbase.ate ∧ v.extractLsb' 1 3 = s.dirbase.dps ∧ v.getLsbD 4 = s.dirbase.bl ∧
      v.getLsbD 5 = s.dirbase.iti ∧ v.getLsbD 7 = s.dirbase.cs8 ∧ v.extractLsb' 8 2 = s.dirbase.rb ∧
      v.extractLsb' 10 2 = s.dirbase.rc ∧ v.extractLsb' 12 20 = s.dirbase.dtb) ∧
    (∃ v : Word, Gives (.ldc .fsr dest) false s (s.tick.setR dest v) ∧
      v.getLsbD 0 = s.fsr.getLsbD 0 ∧ v.getLsbD 1 = s.fsr.getLsbD 1 ∧ v.extractLsb' 2 2 = s.fsr.extractLsb' 2 2 ∧
      v.getLsbD 5 = s.fsr.getLsbD 5) ∧
    (∃ v : Word, Gives (.ldc .epsr dest) false s (s.tick.setR dest v) ∧
      v.getLsbD 13 = s.epsr.il ∧ v.getLsbD 14 = s.epsr.wp ∧ v.getLsbD 22 = s.epsr.pbm ∧ v.getLsbD 23 = s.epsr.be ∧
      v.getLsbD 24 = s.epsr.of)

/-- st.c in supervisor mode writes the register, but for fir, bit 16 of psr and the read-only fields of epsr, and
values that set BR, BW, ATE, ITI or BE are refused. In user mode it writes CC, LCC, SC, PS and PM of psr and all
of fsr, and has no other effect. Bit positions are PRESUMED (log entry 5), the user-mode limits GK21 (log entry
37), the writable bits DEDUCED (log entry 36). -/
def Obligations.StoreControlWritesByMode : Prop :=
  ∀ (src1 : Reg) (s : State), CoreReady s →
    let v := s.R src1
    let sets (c : CReg) (t : State) : Prop := Gives (.stc src1 c) false s t
    sets .fir s ∧ sets .fsr { s with fsr := v } ∧
    (s.psr.u = false →
      sets .db { s with db := v } ∧
      (if v.getLsbD 0 || v.getLsbD 1 then exec (.stc src1 .psr) s = .refused .dataBreakpoint
       else ∃ p : Psr, sets .psr { s with psr := p } ∧ p.rsvd = s.psr.rsvd ∧
         ∀ k < 32, k ≠ 16 → p.toWord.getLsbD k = v.getLsbD k) ∧
      (if v.getLsbD 0 || v.getLsbD 5 then exec (.stc src1 .dirbase) s = .refused .addressTranslation
       else ∃ q : Dirbase, sets .dirbase { s with dirbase := q } ∧ q.toWord = v) ∧
      (if v.getLsbD 23 then exec (.stc src1 .epsr) s = .refused .bigEndian
       else sets .epsr { s with epsr := { s.epsr with
         il := v.getLsbD 13
         wp := v.getLsbD 14
         pbm := v.getLsbD 22
         of := v.getLsbD 24 } })) ∧
    (s.psr.u = true →
      sets .dirbase s ∧ sets .db s ∧ sets .epsr s ∧
      sets .psr { s with psr := { s.psr with
        cc := v.getLsbD 2
        lcc := v.getLsbD 3
        sc := BitVec.ofNat 5 (v.toNat / 2 ^ 17)
        ps := BitVec.ofNat 2 (v.toNat / 2 ^ 22)
        pm := BitVec.ofNat 8 (v.toNat / 2 ^ 24) } })

/-- trap takes the trap IT whatever its operands; intovr takes it exactly when OF is set, and otherwise does nothing.
What entry writes is PRESUMED (log entry 11). -/
def Obligations.TrapAndIntovrRaiseTheInstructionFault : Prop :=
  ∀ (src1 src2 dest : Reg) (s : State), TransferReady s →
    (s.dirbase.bl = false → exec (.trap src1 src2 dest) s = .next (s.enterTrap .it s.pc false)) ∧
    (s.dirbase.bl = false → s.epsr.of = true → exec .intovr s = .next (s.enterTrap .it s.pc false)) ∧
    (s.epsr.of = false → Transfers .intovr s s (s.pc + 4) none)

/-- lock sets BL and holds interrupts off; unlock clears BL, and where the bus is still locked interrupts stay off
after it. How long is DEDUCED (log entry 21). -/
def Obligations.LockAndUnlockHoldInterruptsOff : Prop :=
  ∀ s, CoreReady s →
    Gives .lock false s { s with dirbase := { s.dirbase with bl := true }, busLock := true } ∧
    Gives .unlock false s { s with dirbase := { s.dirbase with bl := false } } ∧
    (∀ t, exec .lock s = .next t → t.interrupted = false) ∧
    (s.busLock = true → ∀ t, exec .unlock s = .next t → t.interrupted = false)

/-! ## Scalar floating point -/

/-- fadd, fsub and fmul: the configuration function's value goes to fdest, the unit's pipeline becomes undefined, and
a result exception becomes pending. The function itself is PRESUMED (log entries 7, 8). -/
def Obligations.ScalarArithmeticWritesTheResult : Prop :=
  ∀ (src1 src2 dest : Reg) (d : Bool) (s : State), FpReady s d →
    let clear : MPipe := match s.mPipe with
      | .three _ _ _ => .three .undef .undef .undef
      | .two _ _ => .two .undef .undef
    let adder (i : Instr) (f : Prec → Prec → FpEnv → DWord → DWord → FpOut) (sp rp : Prec) : Prop :=
      let o := f sp rp s.fpEnv (s.fread src1 sp) (s.fread src2 sp)
      NoSourceTrap s o → Gives i d s
        ({ s with aPipe := ⟨.undef, .undef, .undef⟩, fpPending := s.pends o }.fwrite dest rp o.value)
    let multiplier (i : Instr) (sp rp : Prec) : Prop :=
      let o := fpMul sp rp s.fpEnv (s.fread src1 sp) (s.fread src2 sp)
      NoSourceTrap s o → Gives i d s ({ s with mPipe := clear, fpPending := s.pends o }.fwrite dest rp o.value)
    adder (.faddSs d src1 src2 dest) fpAdd .s .s ∧ adder (.fsubSs d src1 src2 dest) fpSub .s .s ∧
    multiplier (.fmulSs d src1 src2 dest) .s .s ∧
    (dest.toNat % 2 = 0 →
      adder (.faddSd d src1 src2 dest) fpAdd .s .d ∧ adder (.fsubSd d src1 src2 dest) fpSub .s .d ∧
      multiplier (.fmulSd d src1 src2 dest) .s .d) ∧
    (src1.toNat % 2 = 0 → src2.toNat % 2 = 0 → dest.toNat % 2 = 0 →
      adder (.faddDd d src1 src2 dest) fpAdd .d .d ∧ adder (.fsubDd d src1 src2 dest) fpSub .d .d ∧
      multiplier (.fmulDd d src1 src2 dest) .d .d)

/-- fmlow.dd: bits 52..0 of the product of the low 53 bits of both operands, bit 53 the top bit of that product. That
the mantissa has 53 bits, so bits 52 and 53 of the result, is the spec's reading D50 and the model's (log entry 30: a
proof should rely on bits 51..0 alone); the other bits are free (log entry 30). -/
def Obligations.MultiplyLowKeepsTheLowProduct : Prop :=
  ∀ (src1 src2 dest : Reg) (d : Bool) (s : State), FpReady s d → src1.toNat % 2 = 0 → src2.toNat % 2 = 0 →
    dest.toNat % 2 = 0 →
    let product := ((s.FD src1).toNat % 2 ^ 53) * ((s.FD src2).toNat % 2 ^ 53)
    ∃ v : DWord, Gives (.fmlowDd d src1 src2 dest) d s
        ({ s.tick with mPipe := s.mPipe.clear }.fwrite dest .d v) ∧
      v.toNat % 2 ^ 53 = product % 2 ^ 53 ∧ v.getLsbD 53 = product.testBit 105

/-- frcp and frsqr: the value that the configuration function gives for the operand and a free draw goes to fdest, and
the multiplier pipeline becomes undefined. For a normal operand (of frsqr a positive one) that value is finite, has the
sign of the operand, and lies within 2^-7 of the exact reciprocal, relative to a significand in [1, 2). Which member it
is, is the model's free choice (log entry 9). -/
def Obligations.ReciprocalsWriteAMemberOfTheSet : Prop :=
  ∀ (src2 dest : Reg) (d : Bool) (s : State), FpReady s d →
    let seed (i : Instr) (f : Prec → Prec → FpEnv → DWord → DWord → FpOut)
        (close : Nat → Int → Nat → Int → Bool) (signs : List Bool) (sp rp : Prec) : Prop :=
      let o := f sp rp s.fpEnv (s.fread src2 sp) s.drawn
      (NoSourceTrap s o → Gives i d s
        ({ s.tick with mPipe := s.mPipe.clear, fpPending := s.pends o }.fwrite dest rp o.value)) ∧
      (∀ neg m e, fpClass sp (s.fread src2 sp) = .finite neg m e → neg ∈ signs →
        o.se = false ∧ ∃ mv ev, fpMagnitude rp o.value = some (neg, mv, ev) ∧ close mv ev m e = true)
    let frcp (i : Instr) (sp rp : Prec) : Prop := seed i fpRcp rcpClose [false, true] sp rp
    let frsqr (i : Instr) (sp rp : Prec) : Prop := seed i fpRsqr rsqrClose [false] sp rp
    frcp (.frcpSs d src2 dest) .s .s ∧ frsqr (.frsqrSs d src2 dest) .s .s ∧
    (dest.toNat % 2 = 0 → frcp (.frcpSd d src2 dest) .s .d ∧ frsqr (.frsqrSd d src2 dest) .s .d) ∧
    (src2.toNat % 2 = 0 → dest.toNat % 2 = 0 →
      frcp (.frcpDd d src2 dest) .d .d ∧ frsqr (.frsqrDd d src2 dest) .d .d)

/-- fix and ftrunc: the 32-bit integer goes to fdest; a double-precision result has it in the low half and some value
in the high half. The high half is free (log entry 30); the function is PRESUMED (log entry 7). -/
def Obligations.ConversionsToIntegerWriteTheLowHalf : Prop :=
  ∀ (src1 dest : Reg) (d : Bool) (s : State), FpReady s d →
    let single (i : Instr) (f : Prec → FpEnv → DWord → FpOut) : Prop :=
      let o := f .s s.fpEnv (s.fread src1 .s)
      NoSourceTrap s o → Gives i d s
        ({ s with aPipe := ⟨.undef, .undef, .undef⟩, fpPending := s.pends o }.setFS dest (o.value.extractLsb' 0 32))
    let double (i : Instr) (f : Prec → FpEnv → DWord → FpOut) (sp : Prec) : Prop :=
      let o := f sp s.fpEnv (s.fread src1 sp)
      NoSourceTrap s o → ∃ high : Word, Gives i d s
        (({ s.tick with aPipe := ⟨.undef, .undef, .undef⟩, fpPending := s.pends o }.setFS dest
          (o.value.extractLsb' 0 32)).setFS (dest + 1) high)
    single (.fixSs d src1 dest) fpFix ∧ single (.ftruncSs d src1 dest) fpTrunc ∧
    (dest.toNat % 2 = 0 → double (.fixSd d src1 dest) fpFix .s ∧ double (.ftruncSd d src1 dest) fpTrunc .s ∧
      (src1.toNat % 2 = 0 → double (.fixDd d src1 dest) fpFix .d ∧ double (.ftruncDd d src1 dest) fpTrunc .d))

/-- famov at every precision, and fmov.sd and fmov.ds: the converted value goes to fdest and no result exception
becomes pending. The conversion is PRESUMED (log entry 7). -/
def Obligations.AdderMovesWriteTheConvertedValue : Prop :=
  ∀ (src1 dest : Reg) (d : Bool) (s : State), FpReady s d →
    let move (i : Instr) (sp rp : Prec) : Prop :=
      let o := fpCvt sp rp s.fpEnv (s.fread src1 sp)
      NoSourceTrap s o → Gives i d s ({ s with aPipe := ⟨.undef, .undef, .undef⟩ }.fwrite dest rp o.value)
    move (.famovSs d src1 dest) .s .s ∧
    (dest.toNat % 2 = 0 → move (.famovSd d src1 dest) .s .d ∧ move (.fmovSd d src1 dest) .s .d) ∧
    (src1.toNat % 2 = 0 → move (.famovDs d src1 dest) .d .s ∧ move (.fmovDs d src1 dest) .d .s) ∧
    (src1.toNat % 2 = 0 → dest.toNat % 2 = 0 → move (.famovDd d src1 dest) .d .d)

/-! ## Pipelined floating point -/

/-- Delivery from a pipeline: nothing to f0 and f1, an entry of the same precision as it is, an undefined entry as a
free value, and an entry of the other precision is refused. That a destination f0 or f1 takes any entry is DEDUCED
(log entry 26). -/
def Obligations.DeliveryFromAPipeline : Prop :=
  ∀ (s : State) (dest : Reg) (p q : Prec) (v : DWord) (e : Entry),
    ((dest = 0 ∨ dest = 1) → deliver s e dest p = .ok s) ∧
    (¬(dest = 0 ∨ dest = 1) →
      deliver s (.val v p) dest p = .ok (s.fwrite dest p v) ∧
      (q ≠ p → deliver s (.val v q) dest p = .error .pipePrecision) ∧
      deliver s .undef dest p = .ok (s.tick.fwrite dest p s.drawn))

/-- pfadd, pfsub, pfamov, pfmov.sd, pfmov.ds, pfix and pftrunc: the last adder stage is delivered, the pipeline
advances by one stage, and the new result enters the first stage. The arithmetic is PRESUMED (log entry 7), a
conversion's high half free (log entry 30). -/
def Obligations.PipelinedAdderAdvancesOneStage : Prop :=
  ∀ (src1 src2 dest : Reg) (d : Bool) (s u : State), FpReady s d →
    let enters (i : Instr) (rp : Prec) (o : FpOut) (pends : Bool) : Prop :=
      NoSourceTrap s o → deliver s s.aPipe.q3 dest rp = .ok u → Gives i d s
        { u with aPipe := ⟨.val o.value rp, s.aPipe.q1, s.aPipe.q2⟩, fpPending := pends }
    let two (i : Instr) (f : Prec → Prec → FpEnv → DWord → DWord → FpOut) (sp rp : Prec) : Prop :=
      let o := f sp rp s.fpEnv (s.fread src1 sp) (s.fread src2 sp)
      enters i rp o (s.pends o)
    let move (i : Instr) (sp rp : Prec) : Prop := enters i rp (fpCvt sp rp s.fpEnv (s.fread src1 sp)) s.fpPending
    let integer (i : Instr) (f : Prec → FpEnv → DWord → FpOut) (sp : Prec) : Prop :=
      let o := f sp s.fpEnv (s.fread src1 sp)
      NoSourceTrap s o → deliver s.tick s.aPipe.q3 dest .d = .ok u → ∃ high : Word, Gives i d s
        { u with aPipe := ⟨.val (high ++ o.value.extractLsb' 0 32) .d, s.aPipe.q1, s.aPipe.q2⟩, fpPending := s.pends o }
    two (.pfaddSs d src1 src2 dest) fpAdd .s .s ∧ two (.pfsubSs d src1 src2 dest) fpSub .s .s ∧
    move (.pfamovSs d src1 dest) .s .s ∧
    (let o := fpFix .s s.fpEnv (s.fread src1 .s)
     enters (.pfixSs d src1 dest) .s o (s.pends o)) ∧
    (let o := fpTrunc .s s.fpEnv (s.fread src1 .s)
     enters (.pftruncSs d src1 dest) .s o (s.pends o)) ∧
    (dest.toNat % 2 = 0 →
      two (.pfaddSd d src1 src2 dest) fpAdd .s .d ∧ two (.pfsubSd d src1 src2 dest) fpSub .s .d ∧
      move (.pfamovSd d src1 dest) .s .d ∧ move (.pfmovSd d src1 dest) .s .d ∧
      integer (.pfixSd d src1 dest) fpFix .s ∧ integer (.pftruncSd d src1 dest) fpTrunc .s) ∧
    (src1.toNat % 2 = 0 → move (.pfamovDs d src1 dest) .d .s ∧ move (.pfmovDs d src1 dest) .d .s) ∧
    (src1.toNat % 2 = 0 → dest.toNat % 2 = 0 →
      move (.pfamovDd d src1 dest) .d .d ∧
      integer (.pfixDd d src1 dest) fpFix .d ∧ integer (.pftruncDd d src1 dest) fpTrunc .d ∧
      (src2.toNat % 2 = 0 →
        two (.pfaddDd d src1 src2 dest) fpAdd .d .d ∧ two (.pfsubDd d src1 src2 dest) fpSub .d .d))

/-- pfgt, pfle and pfeq: CC is the relation (pfle clears it when it holds), an undefined entry enters the adder
pipeline, and no result exception occurs. The relation on exceptional operands is open (log entry 32). -/
def Obligations.ComparesSetCcAndInsertUndefined : Prop :=
  ∀ (src1 src2 dest : Reg) (d : Bool) (s u : State), FpReady s d →
    let compares (i : Instr) (f : Prec → FpEnv → DWord → DWord → FpCond) (holds : Bool) (p : Prec) : Prop :=
      let c := f p s.fpEnv (s.fread src1 p) (s.fread src2 p)
      (fsrFte s.fsr = true → c.se = false) → deliver s s.aPipe.q3 dest p = .ok u → Gives i d s
        { u with aPipe := ⟨.undef, s.aPipe.q1, s.aPipe.q2⟩
                 psr := { s.psr with cc := if c.cc then holds else !holds } }
    compares (.pfgtSs d src1 src2 dest) fpGt true .s ∧ compares (.pfleSs d src1 src2 dest) fpLe false .s ∧
    compares (.pfeqSs d src1 src2 dest) fpEq true .s ∧
    (src1.toNat % 2 = 0 → src2.toNat % 2 = 0 → dest.toNat % 2 = 0 →
      compares (.pfgtDd d src1 src2 dest) fpGt true .d ∧ compares (.pfleDd d src1 src2 dest) fpLe false .d ∧
      compares (.pfeqDd d src1 src2 dest) fpEq true .d)

/-- pfmul and pfmul3.dd: where the pipeline has or takes the stages of the operation, three for single-precision sources
and pfmul3, two for pfmul.dd, its last stage is delivered and the product enters its first; where entries of another
count are in flight the operation is refused. A pipeline of undefined entries takes the right length. Two stages of
pfmul.dd are GK6 (log entry 37). -/
def Obligations.PipelinedMultiplyAdvancesItsPipeline : Prop :=
  (∀ a b c : Entry,
    (MPipe.three a b c).ready true = some (.three a b c) ∧ (MPipe.two a b).ready false = some (.two a b) ∧
    (MPipe.three a b c).ready false = (if a = .undef ∧ b = .undef ∧ c = .undef then some (.two .undef .undef) else none) ∧
    (MPipe.two a b).ready true = (if a = .undef ∧ b = .undef then some (.three .undef .undef .undef) else none)) ∧
  ∀ (src1 src2 dest : Reg) (d : Bool) (s : State), FpReady s d →
    let multiplies (i : Instr) (three : Bool) (sp rp : Prec) : Prop :=
      let o := fpMul sp rp s.fpEnv (s.fread src1 sp) (s.fread src2 sp)
      (∀ m u, s.mPipe.ready three = some m → NoSourceTrap s o → deliver s m.last dest rp = .ok u →
        Gives i d s { u with mPipe := m.push (.val o.value rp), fpPending := s.pends o }) ∧
      (s.mPipe.ready three = none → exec i s = .refused .mulStageCount)
    (dest = 0 ∨ src1 ≠ dest → multiplies (.pfmulSs d src1 src2 dest) true .s .s) ∧
    (dest.toNat % 2 = 0 → (dest = 0 ∨ src1 ≠ dest ∧ src1 ≠ dest + 1) →
      multiplies (.pfmulSd d src1 src2 dest) true .s .d) ∧
    (src1.toNat % 2 = 0 → src2.toNat % 2 = 0 → dest.toNat % 2 = 0 → (dest = 0 ∨ src1 ≠ dest) →
      multiplies (.pfmulDd d src1 src2 dest) false .d .d ∧ multiplies (.pfmul3Dd d src1 src2 dest) true .d .d)

/-! ## Dual operations -/

/-- pfam, pfsm, pfmam and pfmsm at one precision: both units start an operation on the operands that the data path
picks from the state before the step, one last stage is delivered, and T and K are loaded last. The data paths but
1001 of pfam are GK8, PRESUMED (log entry 37); precisions of KR, KI and T, and that an undefined operand reports no
exception, are the model's choice (log entry 10), and so is restriction d without f0 (log entry 42). Data-path control
1111 of pfmam and pfmsm, which no decoded word has, stands as 1101 (log entry 28). -/
def Obligations.DualOperationsStartBothUnits : Prop :=
  ∀ (dpc : BitVec 4) (src1 src2 dest : Reg) (d : Bool) (s u : State) (m : MPipe), FpReady s d →
    let starts (i : Instr) (f : Prec → Prec → FpEnv → DWord → DWord → FpOut) (path : DataPath) (p : Prec)
        (toMul : Bool) : Prop :=
      let operand := s.dualOperand m p src1 src2
      let mo := dualAnswer fpMul s.fpEnv p (operand path.m1) (operand path.m2)
      let ao := dualAnswer f s.fpEnv p (operand path.a1) (operand path.a2)
      p.fits src1 = true → p.fits src2 = true → p.fits dest = true → dualSourceOk path p src1 dest = true →
      s.mPipe.ready p.threeStage = some m →
      (fsrFte s.fsr = true → (∀ o, mo = some o → o.se = false) ∧ (∀ o, ao = some o → o.se = false)) →
      deliver s (if toMul then m.last else s.aPipe.q3) dest p = .ok u →
      let w := (u.loadT path.tLoad m.last p).loadK path.kLoad (s.fread src1 p) p
      Gives i d s { w with
        aPipe := ⟨(match ao with | some o => .val o.value p | none => .undef), s.aPipe.q1, s.aPipe.q2⟩
        mPipe := m.push (match mo with | some o => .val o.value p | none => .undef)
        fpPending := (match mo with | some o => s.pends o | none => s.fpPending) ||
          (match ao with | some o => s.pends o | none => s.fpPending) }
    starts (.pfamSs dpc d src1 src2 dest) fpAdd (dataPathA dpc) .s false ∧
    starts (.pfamDd dpc d src1 src2 dest) fpAdd (dataPathA dpc) .d false ∧
    starts (.pfsmSs dpc d src1 src2 dest) fpSub (dataPathA dpc) .s false ∧
    starts (.pfsmDd dpc d src1 src2 dest) fpSub (dataPathA dpc) .d false ∧
    starts (.pfmamSs dpc d src1 src2 dest) fpAdd (dataPathM dpc) .s true ∧
    starts (.pfmamDd dpc d src1 src2 dest) fpAdd (dataPathM dpc) .d true ∧
    starts (.pfmsmSs dpc d src1 src2 dest) fpSub (dataPathM dpc) .s true ∧
    starts (.pfmsmDd dpc d src1 src2 dest) fpSub (dataPathM dpc) .d true

/-- m12apm.ss (pfam.ss with data path 1001): the multiplier starts fsrc1 times fsrc2 and the adder the sum of the two
last results, which is what the dot-product loop of the source relies on. That m12apm is data path 1001 is GK8,
PRESUMED (log entry 37), and what it does is derived from that loop (R323). -/
def Obligations.M12apmMultipliesSourcesAndAddsResults : Prop :=
  ∀ (src1 src2 dest : Reg) (d : Bool) (s : State) (a1 a2 m1 m2 : Entry) (x y : DWord), FpReady s d →
    s.aPipe = ⟨a1, a2, .val x .s⟩ → s.mPipe = .three m1 m2 (.val y .s) → (dest = 0 ∨ src1 ≠ dest) →
    fsrFte s.fsr = false →
    Gives (.pfamSs 9 d src1 src2 dest) d s
      ({ s with
        aPipe := ⟨.val (fpAdd .s .s s.fpEnv x y).value .s, a1, a2⟩
        mPipe := .three (.val (fpMul .s .s s.fpEnv (s.fread src1 .s) (s.fread src2 .s)).value .s) m1 m2 }.fwrite dest .s x)

/-- pfam.sd, pfsm.sd, pfmam.sd and pfmsm.sd are refused whatever their operands. -/
def Obligations.MixedPrecisionDualOperationsAreRefused : Prop :=
  ∀ (dpc : BitVec 4) (src1 src2 dest : Reg) (d : Bool) (s : State), s.mode = .single → (s.armed = true → d = true) →
    exec (.pfamSd dpc d src1 src2 dest) s = .refused .mixedPrecisionDual ∧
    exec (.pfsmSd dpc d src1 src2 dest) s = .refused .mixedPrecisionDual ∧
    exec (.pfmamSd dpc d src1 src2 dest) s = .refused .mixedPrecisionDual ∧
    exec (.pfmsmSd dpc d src1 src2 dest) s = .refused .mixedPrecisionDual

/-! ## Graphics -/

/-- fiadd, fisub and fmov.ss, fmov.dd: one sum or difference modulo 2^32 or 2^64 to fdest, the graphics pipeline
undefined. Their pipelined forms deliver the graphics pipeline's entry and put the new result in its place. -/
def Obligations.GraphicsAddsAreModular : Prop :=
  ∀ (src1 src2 dest : Reg) (d : Bool) (s : State), FpReady s d →
    let writes (i : Instr) (p : Prec) (v : DWord) : Prop := Gives i d s ({ s with gPipe := .undef }.fwrite dest p v)
    let enters (i : Instr) (p : Prec) (v : DWord) : Prop :=
      ∀ u, deliver s s.gPipe dest p = .ok u → Gives i d s { u with gPipe := .val v p }
    let long (n : Int) : DWord := (BitVec.ofInt 32 n).setWidth 64
    let a := s.FS src1
    let b := s.FS src2
    writes (.fiaddSs d src1 src2 dest) .s (long (a.toNat + b.toNat)) ∧
    writes (.fisubSs d src1 src2 dest) .s (long (a.toNat - b.toNat)) ∧
    writes (.fmovSs d src1 dest) .s (long a.toNat) ∧
    (dest = 0 ∨ src1 ≠ dest → enters (.pfmovSs d src1 dest) .s (long a.toNat) ∧
      (dest = 0 ∨ src2 ≠ dest →
        enters (.pfiaddSs d src1 src2 dest) .s (long (a.toNat + b.toNat)) ∧
        enters (.pfisubSs d src1 src2 dest) .s (long (a.toNat - b.toNat)))) ∧
    (src1.toNat % 2 = 0 → dest.toNat % 2 = 0 →
      let a := s.FD src1
      let b := s.FD src2
      writes (.fmovDd d src1 dest) .d a ∧
      (dest = 0 ∨ src1 ≠ dest → enters (.pfmovDd d src1 dest) .d a) ∧
      (src2.toNat % 2 = 0 →
        writes (.fiaddDd d src1 src2 dest) .d (BitVec.ofInt 64 (a.toNat + b.toNat)) ∧
        writes (.fisubDd d src1 src2 dest) .d (BitVec.ofInt 64 (a.toNat - b.toNat)) ∧
        (dest = 0 ∨ src1 ≠ dest ∧ src2 ≠ dest →
          enters (.pfiaddDd d src1 src2 dest) .d (BitVec.ofInt 64 (a.toNat + b.toNat)) ∧
          enters (.pfisubDd d src1 src2 dest) .d (BitVec.ofInt 64 (a.toNat - b.toNat)))))

/-- faddp and pfaddp: one 64-bit sum, and MERGE is shifted right by 8, 6 or 8 and loaded with the high bits of each
field of the sum: bits 63..56, 47..40, 31..24, 15..8 for 8-bit pixels, 63..58, 47..42, 31..26, 15..10 for 16-bit
ones, 63..56 and 31..24 for 32-bit ones. Pixel codes and shift counts are GK5 and GK23 (log entry 37). -/
def Obligations.PixelAddsShiftAndLoadMerge : Prop :=
  ∀ (src1 src2 dest : Reg) (d : Bool) (s u : State), FpReady s d → src1.toNat % 2 = 0 → src2.toNat % 2 = 0 →
    dest.toNat % 2 = 0 → s.psr.ps ≠ 3 →
    let sum := BitVec.ofNat 64 ((s.FD src1).toNat + (s.FD src2).toNat)
    let field := if s.psr.ps = 2 then 32 else 16
    let count := if s.psr.ps = 1 then 6 else 8
    ∃ m : DWord,
      (∀ k < 64, m.getLsbD k = if field ≤ k % field + count then sum.getLsbD k else s.merge.getLsbD (k + count)) ∧
      Gives (.faddp d src1 src2 dest) d s ({ s with gPipe := .undef, merge := m }.setFD dest sum) ∧
      ((dest = 0 ∨ src1 ≠ dest ∧ src2 ≠ dest) → deliver s s.gPipe dest .d = .ok u →
        Gives (.pfaddp d src1 src2 dest) d s { u with gPipe := .val sum .d, merge := m })

/-- faddz and pfaddz: one 64-bit sum; MERGE is shifted right by 16 and bits 63..48 and 31..16 are loaded from the sum.
form and pform: fsrc1 OR MERGE, and MERGE becomes 0. -/
def Obligations.ZAddsAndFormUseMerge : Prop :=
  ∀ (src1 src2 dest : Reg) (d : Bool) (s u : State), FpReady s d → src1.toNat % 2 = 0 → dest.toNat % 2 = 0 →
    (src2.toNat % 2 = 0 →
      let sum := BitVec.ofNat 64 ((s.FD src1).toNat + (s.FD src2).toNat)
      ∃ m : DWord,
        (∀ k < 64, m.getLsbD k = if 16 ≤ k % 32 then sum.getLsbD k else s.merge.getLsbD (k + 16)) ∧
        Gives (.faddz d src1 src2 dest) d s ({ s with gPipe := .undef, merge := m }.setFD dest sum) ∧
        ((dest = 0 ∨ src1 ≠ dest ∧ src2 ≠ dest) → deliver s s.gPipe dest .d = .ok u →
          Gives (.pfaddz d src1 src2 dest) d s { u with gPipe := .val sum .d, merge := m })) ∧
    (let v := s.FD src1 ||| s.merge
     Gives (.form d src1 dest) d s ({ s with gPipe := .undef, merge := 0 }.setFD dest v) ∧
     ((dest = 0 ∨ src1 ≠ dest) → deliver s s.gPipe dest .d = .ok u →
       Gives (.pform d src1 dest) d s { u with gPipe := .val v .d, merge := 0 }))

/-- fzchkl, fzchks and their pipelined forms: each field of the result is the smaller of the two, PM is shifted right
by the number of fields and receives at the top, for each field, whether fsrc2 is not larger, and MERGE becomes 0. -/
def Obligations.ZChecksTakeMinimaAndMarkPm : Prop :=
  ∀ (src1 src2 dest : Reg) (d : Bool) (s u : State), FpReady s d → src1.toNat % 2 = 0 → src2.toNat % 2 = 0 →
    dest.toNat % 2 = 0 →
    let checks (scalar piped : Instr) (w : Nat) : Prop :=
      ∃ (v : DWord) (pm : Byte),
        (∀ i < 64 / w, v.toNat / 2 ^ (w * i) % 2 ^ w =
          min ((s.FD src1).toNat / 2 ^ (w * i) % 2 ^ w) ((s.FD src2).toNat / 2 ^ (w * i) % 2 ^ w)) ∧
        (∀ k < 8, pm.getLsbD k =
          if k < 8 - 64 / w then s.psr.pm.getLsbD (k + 64 / w)
          else decide ((s.FD src2).toNat / 2 ^ (w * (k - (8 - 64 / w))) % 2 ^ w ≤
            (s.FD src1).toNat / 2 ^ (w * (k - (8 - 64 / w))) % 2 ^ w)) ∧
        Gives scalar d s ({ s with gPipe := .undef, merge := 0, psr := { s.psr with pm := pm } }.setFD dest v) ∧
        (deliver s s.gPipe dest .d = .ok u →
          Gives piped d s { u with gPipe := .val v .d, merge := 0, psr := { s.psr with pm := pm } })
    checks (.fzchkl d src1 src2 dest) (.pfzchkl d src1 src2 dest) 32 ∧
    checks (.fzchks d src1 src2 dest) (.pfzchks d src1 src2 dest) 16
end

