-- ==== Sys2Proof/Laws/Encoding.lean ====
section
/-!
SUPPORT. The fields of the words that the encoder builds: what the decoder reads from each word format.
-/
namespace Sys2Proof

/-! ## Parts of an appended bit vector -/

/-- A field inside the low part. -/
theorem extract_low {n m : Nat} (a : BitVec n) (b : BitVec m) (s k : Nat) (h : s + k ≤ m) :
    (a ++ b).extractLsb' s k = b.extractLsb' s k := by
  apply BitVec.eq_of_getLsbD_eq
  intro i hi
  rw [BitVec.getLsbD_extractLsb', BitVec.getLsbD_extractLsb', BitVec.getLsbD_append, if_pos (by omega)]

/-- A field inside the high part. -/
theorem extract_high {n m : Nat} (a : BitVec n) (b : BitVec m) (s k : Nat) (h : m ≤ s) :
    (a ++ b).extractLsb' s k = a.extractLsb' (s - m) k := by
  apply BitVec.eq_of_getLsbD_eq
  intro i hi
  rw [BitVec.getLsbD_extractLsb', BitVec.getLsbD_extractLsb', BitVec.getLsbD_append, if_neg (by omega)]
  congr 2
  omega

/-- The whole as a field of itself. -/
theorem extract_all {n : Nat} (a : BitVec n) : a.extractLsb' 0 n = a := by
  apply BitVec.eq_of_getLsbD_eq
  intro i hi
  simp [hi]

/-- A bit of the low part. -/
theorem bit_low {n m : Nat} (a : BitVec n) (b : BitVec m) (i : Nat) (h : i < m) :
    (a ++ b).getLsbD i = b.getLsbD i := by
  rw [BitVec.getLsbD_append, if_pos h]

/-- A bit of the high part. -/
theorem bit_high {n m : Nat} (a : BitVec n) (b : BitVec m) (i : Nat) (h : m ≤ i) :
    (a ++ b).getLsbD i = a.getLsbD (i - m) := by
  rw [BitVec.getLsbD_append, if_neg (by omega)]

/-- A mask part by part. -/
theorem append_and {n m : Nat} (a b : BitVec n) (c d : BitVec m) : (a ++ c) &&& (b ++ d) = (a &&& b) ++ (c &&& d) := by
  apply BitVec.eq_of_getLsbD_eq
  intro i hi
  simp only [BitVec.getLsbD_and, BitVec.getLsbD_append]
  split <;> rfl

/-! ## The REG format (R102) -/

@[simp] theorem regWord_opc (op : BitVec 6) (s2 d s1 : Reg) (l : BitVec 11) : opcField (regWord op s2 d s1 l) = op := by
  unfold opcField regWord
  rw [extract_high _ _ _ _ (by omega), extract_high _ _ _ _ (by omega), extract_high _ _ _ _ (by omega),
    extract_high _ _ _ _ (by omega)]
  exact extract_all op
@[simp] theorem regWord_src2 (op : BitVec 6) (s2 d s1 : Reg) (l : BitVec 11) : src2Field (regWord op s2 d s1 l) = s2 := by
  unfold src2Field regWord
  rw [extract_high _ _ _ _ (by omega), extract_high _ _ _ _ (by omega), extract_high _ _ _ _ (by omega),
    extract_low _ _ _ _ (by omega)]
  exact extract_all s2
@[simp] theorem regWord_dest (op : BitVec 6) (s2 d s1 : Reg) (l : BitVec 11) : destField (regWord op s2 d s1 l) = d := by
  unfold destField regWord
  rw [extract_high _ _ _ _ (by omega), extract_high _ _ _ _ (by omega), extract_low _ _ _ _ (by omega)]
  exact extract_all d
@[simp] theorem regWord_src1 (op : BitVec 6) (s2 d s1 : Reg) (l : BitVec 11) : src1Field (regWord op s2 d s1 l) = s1 := by
  unfold src1Field regWord
  rw [extract_high _ _ _ _ (by omega), extract_low _ _ _ _ (by omega)]
  exact extract_all s1
@[simp] theorem regWord_esc (op : BitVec 6) (s2 d s1 : Reg) (l : BitVec 11) :
    escField (regWord op s2 d s1 l) = l.extractLsb' 0 5 := by
  unfold escField regWord
  rw [extract_low _ _ _ _ (by omega)]
/-- A bit of the low field. -/
theorem regWord_bit (op : BitVec 6) (s2 d s1 : Reg) (l : BitVec 11) (i : Nat) (h : i < 11) :
    (regWord op s2 d s1 l).getLsbD i = l.getLsbD i := by
  unfold regWord
  rw [bit_low _ _ _ h]
@[simp] theorem regWord_bit0 (op : BitVec 6) (s2 d s1 : Reg) (l : BitVec 11) :
    (regWord op s2 d s1 l).getLsbD 0 = l.getLsbD 0 := regWord_bit _ _ _ _ _ _ (by omega)
@[simp] theorem regWord_bit1 (op : BitVec 6) (s2 d s1 : Reg) (l : BitVec 11) :
    (regWord op s2 d s1 l).getLsbD 1 = l.getLsbD 1 := regWord_bit _ _ _ _ _ _ (by omega)
@[simp] theorem regWord_bit2 (op : BitVec 6) (s2 d s1 : Reg) (l : BitVec 11) :
    (regWord op s2 d s1 l).getLsbD 2 = l.getLsbD 2 := regWord_bit _ _ _ _ _ _ (by omega)
@[simp] theorem regWord_dBit (op : BitVec 6) (s2 d s1 : Reg) (l : BitVec 11) :
    dBit (regWord op s2 d s1 l) = l.getLsbD 9 := regWord_bit _ _ _ _ _ _ (by omega)

/-! ## The immediate and split variants (R103, R104) and CTRL (R115) -/

@[simp] theorem immWord_opc (op : BitVec 6) (s2 d : Reg) (i : BitVec 16) : opcField (immWord op s2 d i) = op := by
  unfold opcField immWord
  rw [extract_high _ _ _ _ (by omega), extract_high _ _ _ _ (by omega), extract_high _ _ _ _ (by omega)]
  exact extract_all op
@[simp] theorem immWord_src2 (op : BitVec 6) (s2 d : Reg) (i : BitVec 16) : src2Field (immWord op s2 d i) = s2 := by
  unfold src2Field immWord
  rw [extract_high _ _ _ _ (by omega), extract_high _ _ _ _ (by omega), extract_low _ _ _ _ (by omega)]
  exact extract_all s2
@[simp] theorem immWord_dest (op : BitVec 6) (s2 d : Reg) (i : BitVec 16) : destField (immWord op s2 d i) = d := by
  unfold destField immWord
  rw [extract_high _ _ _ _ (by omega), extract_low _ _ _ _ (by omega)]
  exact extract_all d
@[simp] theorem immWord_imm (op : BitVec 6) (s2 d : Reg) (i : BitVec 16) : immField (immWord op s2 d i) = i := by
  unfold immField immWord
  rw [extract_low _ _ _ _ (by omega)]
  exact extract_all i
/-- A bit of the immediate. -/
theorem immWord_bit (op : BitVec 6) (s2 d : Reg) (imm : BitVec 16) (i : Nat) (h : i < 16) :
    (immWord op s2 d imm).getLsbD i = imm.getLsbD i := by
  unfold immWord
  rw [bit_low _ _ _ h]
@[simp] theorem immWord_bit0 (op : BitVec 6) (s2 d : Reg) (i : BitVec 16) :
    (immWord op s2 d i).getLsbD 0 = i.getLsbD 0 := immWord_bit _ _ _ _ _ (by omega)
@[simp] theorem immWord_bit1 (op : BitVec 6) (s2 d : Reg) (i : BitVec 16) :
    (immWord op s2 d i).getLsbD 1 = i.getLsbD 1 := immWord_bit _ _ _ _ _ (by omega)
@[simp] theorem immWord_bit2 (op : BitVec 6) (s2 d : Reg) (i : BitVec 16) :
    (immWord op s2 d i).getLsbD 2 = i.getLsbD 2 := immWord_bit _ _ _ _ _ (by omega)

@[simp] theorem splitWord_opc (op : BitVec 6) (s2 s1 : Reg) (o : BitVec 16) : opcField (splitWord op s2 s1 o) = op :=
  regWord_opc op s2 _ s1 _
@[simp] theorem splitWord_src2 (op : BitVec 6) (s2 s1 : Reg) (o : BitVec 16) : src2Field (splitWord op s2 s1 o) = s2 :=
  regWord_src2 op s2 _ s1 _
@[simp] theorem splitWord_src1 (op : BitVec 6) (s2 s1 : Reg) (o : BitVec 16) : src1Field (splitWord op s2 s1 o) = s1 :=
  regWord_src1 op s2 _ s1 _
@[simp] theorem splitWord_off (op : BitVec 6) (s2 s1 : Reg) (o : BitVec 16) : splitField (splitWord op s2 s1 o) = o := by
  have h1 : destField (splitWord op s2 s1 o) = o.extractLsb' 11 5 := regWord_dest op s2 _ s1 _
  have h2 : lowField (splitWord op s2 s1 o) = o.extractLsb' 0 11 := by
    unfold lowField splitWord
    rw [extract_low _ _ _ _ (by omega)]
    exact extract_all _
  unfold splitField
  rw [h1, h2]
  apply BitVec.eq_of_getLsbD_eq
  intro i hi
  rw [BitVec.getLsbD_append]
  split
  · simp [*]
  · rw [BitVec.getLsbD_extractLsb']
    have h3 : i - 11 < 5 := by omega
    have h4 : 11 + (i - 11) = i := by omega
    simp [h3, h4]
@[simp] theorem splitWord_bit0 (op : BitVec 6) (s2 s1 : Reg) (o : BitVec 16) :
    (splitWord op s2 s1 o).getLsbD 0 = o.getLsbD 0 := by
  have : (splitWord op s2 s1 o).getLsbD 0 = (o.extractLsb' 0 11).getLsbD 0 := regWord_bit op s2 _ s1 _ 0 (by omega)
  rw [this, BitVec.getLsbD_extractLsb']
  rfl

@[simp] theorem ctrlWord_opc (op : BitVec 6) (o : BitVec 26) : opcField (ctrlWord op o) = op := by
  unfold opcField ctrlWord
  rw [extract_high _ _ _ _ (by omega)]
  exact extract_all op
@[simp] theorem ctrlWord_off (op : BitVec 6) (o : BitVec 26) : broffField (ctrlWord op o) = o := by
  unfold broffField ctrlWord
  rw [extract_low _ _ _ _ (by omega)]
  exact extract_all o

/-! ## The floating-point format (R120) -/

/-- The floating-point format is the REG format with this low field. -/
theorem fpWord_eq (s2 d s1 : Reg) (p dd s r : Bool) (fop : BitVec 7) :
    fpWord s2 d s1 p dd s r fop =
      regWord 0x12#6 s2 d s1 (BitVec.ofBool p ++ BitVec.ofBool dd ++ BitVec.ofBool s ++ BitVec.ofBool r ++ fop) := by
  apply BitVec.eq_of_getLsbD_eq
  intro i hi
  unfold fpWord regWord
  by_cases h7 : i < 7
  · rw [bit_low _ _ _ h7, bit_low _ _ _ (by omega), bit_low _ _ _ h7]
  · rw [bit_high _ _ _ (by omega)]
    by_cases h8 : i < 8
    · rw [bit_low _ _ _ (by omega), bit_low _ _ _ (by omega), bit_high _ _ _ (by omega), bit_low _ _ _ (by omega)]
    · rw [bit_high _ _ _ (by omega)]
      by_cases h9 : i < 9
      · rw [bit_low _ _ _ (by omega), bit_low _ _ _ (by omega), bit_high _ _ _ (by omega), bit_high _ _ _ (by omega),
          bit_low _ _ _ (by omega)]
      · rw [bit_high _ _ _ (by omega)]
        by_cases h10 : i < 10
        · rw [bit_low _ _ _ (by omega), bit_low _ _ _ (by omega), bit_high _ _ _ (by omega),
            bit_high _ _ _ (by omega), bit_high _ _ _ (by omega), bit_low _ _ _ (by omega)]
        · rw [bit_high _ _ _ (by omega)]
          by_cases h11 : i < 11
          · rw [bit_low _ _ _ (by omega), bit_low _ _ _ (by omega), bit_high _ _ _ (by omega),
              bit_high _ _ _ (by omega), bit_high _ _ _ (by omega), bit_high _ _ _ (by omega)]
          · rw [bit_high _ _ _ (by omega)]
            refine Eq.trans ?_ (bit_high _ _ i (by omega)).symm
            exact congrArg _ (by omega)

@[simp] theorem fpWord_opc (s2 d s1 : Reg) (p dd s r : Bool) (fop : BitVec 7) :
    opcField (fpWord s2 d s1 p dd s r fop) = 0x12#6 := by rw [fpWord_eq, regWord_opc]
@[simp] theorem fpWord_src2 (s2 d s1 : Reg) (p dd s r : Bool) (fop : BitVec 7) :
    src2Field (fpWord s2 d s1 p dd s r fop) = s2 := by rw [fpWord_eq, regWord_src2]
@[simp] theorem fpWord_dest (s2 d s1 : Reg) (p dd s r : Bool) (fop : BitVec 7) :
    destField (fpWord s2 d s1 p dd s r fop) = d := by rw [fpWord_eq, regWord_dest]
@[simp] theorem fpWord_src1 (s2 d s1 : Reg) (p dd s r : Bool) (fop : BitVec 7) :
    src1Field (fpWord s2 d s1 p dd s r fop) = s1 := by rw [fpWord_eq, regWord_src1]
@[simp] theorem fpWord_p (s2 d s1 : Reg) (p dd s r : Bool) (fop : BitVec 7) :
    pBit (fpWord s2 d s1 p dd s r fop) = p := by
  unfold pBit
  rw [fpWord_eq, regWord_bit _ _ _ _ _ _ (by omega), bit_high _ _ _ (by omega), bit_high _ _ _ (by omega),
    bit_high _ _ _ (by omega), bit_high _ _ _ (by omega)]
  cases p <;> rfl
@[simp] theorem fpWord_d (s2 d s1 : Reg) (p dd s r : Bool) (fop : BitVec 7) :
    dBit (fpWord s2 d s1 p dd s r fop) = dd := by
  unfold dBit
  rw [fpWord_eq, regWord_bit _ _ _ _ _ _ (by omega), bit_high _ _ _ (by omega), bit_high _ _ _ (by omega),
    bit_high _ _ _ (by omega), bit_low _ _ _ (by omega)]
  cases dd <;> rfl
@[simp] theorem fpWord_s (s2 d s1 : Reg) (p dd s r : Bool) (fop : BitVec 7) :
    sBit (fpWord s2 d s1 p dd s r fop) = s := by
  unfold sBit
  rw [fpWord_eq, regWord_bit _ _ _ _ _ _ (by omega), bit_high _ _ _ (by omega), bit_high _ _ _ (by omega),
    bit_low _ _ _ (by omega)]
  cases s <;> rfl
@[simp] theorem fpWord_r (s2 d s1 : Reg) (p dd s r : Bool) (fop : BitVec 7) :
    rBit (fpWord s2 d s1 p dd s r fop) = r := by
  unfold rBit
  rw [fpWord_eq, regWord_bit _ _ _ _ _ _ (by omega), bit_high _ _ _ (by omega), bit_low _ _ _ (by omega)]
  cases r <;> rfl
@[simp] theorem fpWord_fop (s2 d s1 : Reg) (p dd s r : Bool) (fop : BitVec 7) :
    fopField (fpWord s2 d s1 p dd s r fop) = fop := by
  unfold fopField
  rw [fpWord_eq, regWord, extract_low _ _ _ _ (by omega), extract_low _ _ _ _ (by omega)]
  exact extract_all fop
@[simp] theorem fpWord_dual (s2 d s1 : Reg) (p dd s r : Bool) (fop : BitVec 7) :
    dualField (fpWord s2 d s1 p dd s r fop) = fop.extractLsb' 4 3 := by
  unfold dualField
  rw [fpWord_eq, regWord, extract_low _ _ _ _ (by omega), extract_low _ _ _ _ (by omega)]
@[simp] theorem fpWord_dpc (s2 d s1 : Reg) (p dd s r : Bool) (fop : BitVec 7) :
    dpcField (fpWord s2 d s1 p dd s r fop) = fop.extractLsb' 0 4 := by
  unfold dpcField
  rw [fpWord_eq, regWord, extract_low _ _ _ _ (by omega), extract_low _ _ _ _ (by omega)]

/-! ## Offsets above their size bits (R112 to R114) -/

@[simp] theorem offX_off15 (o : BitVec 15) (b : Bool) : off15 (offX o b) = o := by
  unfold off15 offX
  rw [extract_high _ _ _ _ (by omega)]
  exact extract_all o
@[simp] theorem offX_bit0 (o : BitVec 15) (b : Bool) : (offX o b).getLsbD 0 = b := by
  unfold offX
  rw [bit_low _ _ _ (by omega)]
  cases b <;> rfl
@[simp] theorem offL_off14 (o : BitVec 14) (b : Bool) : off14 (offL o b) = o := by
  unfold off14 offL
  rw [extract_high _ _ _ _ (by omega), extract_high _ _ _ _ (by omega)]
  exact extract_all o
@[simp] theorem offL_bit0 (o : BitVec 14) (b : Bool) : (offL o b).getLsbD 0 = b := by
  unfold offL
  rw [bit_low _ _ _ (by omega)]
  cases b <;> rfl
@[simp] theorem offL_bit1 (o : BitVec 14) (b : Bool) : (offL o b).getLsbD 1 = true := by
  unfold offL
  rw [bit_high _ _ _ (by omega), bit_low _ _ _ (by omega)]
  rfl
@[simp] theorem offW_off13 (o : BitVec 13) (q b : Bool) : off13 (offW o q b) = o := by
  unfold off13 offW
  rw [extract_high _ _ _ _ (by omega), extract_high _ _ _ _ (by omega), extract_high _ _ _ _ (by omega)]
  exact extract_all o
@[simp] theorem offW_bit0 (o : BitVec 13) (q b : Bool) : (offW o q b).getLsbD 0 = b := by
  unfold offW
  rw [bit_low _ _ _ (by omega)]
  cases b <;> rfl
@[simp] theorem offW_bit1 (o : BitVec 13) (q b : Bool) : (offW o q b).getLsbD 1 = false := by
  unfold offW
  rw [bit_high _ _ _ (by omega), bit_low _ _ _ (by omega)]
  rfl
@[simp] theorem offW_bit2 (o : BitVec 13) (q b : Bool) : (offW o q b).getLsbD 2 = q := by
  unfold offW
  rw [bit_high _ _ _ (by omega), bit_high _ _ _ (by omega), bit_low _ _ _ (by omega)]
  cases q <;> rfl
@[simp] theorem sizeLow_bit0 (q b a : Bool) : (sizeLow q b a).getLsbD 0 = a := by cases q <;> cases b <;> cases a <;> rfl
@[simp] theorem sizeLow_bit1 (q b a : Bool) : (sizeLow q b a).getLsbD 1 = b := by cases q <;> cases b <;> cases a <;> rfl
@[simp] theorem sizeLow_bit2 (q b a : Bool) : (sizeLow q b a).getLsbD 2 = q := by cases q <;> cases b <;> cases a <;> rfl

/-! ## The opcodes of dual operations and of fnop (R321, R123) -/

/-- The row bits of pfam and pfmam. -/
theorem fop_dual0 (dpc : BitVec 4) : (0#3 ++ dpc).extractLsb' 4 3 = 0#3 := by revert dpc; decide
/-- The row bits of pfsm and pfmsm. -/
theorem fop_dual1 (dpc : BitVec 4) : (1#3 ++ dpc).extractLsb' 4 3 = 1#3 := by revert dpc; decide
/-- Data-path control. -/
theorem fop_dpc (a : BitVec 3) (dpc : BitVec 4) : (a ++ dpc).extractLsb' 0 4 = dpc := by revert a dpc; decide
/-- The D-bit of shrd. -/
theorem low_dBit (d : Bool) : (0#1 ++ BitVec.ofBool d ++ 0#9 : BitVec 11).getLsbD 9 = d := by cases d <;> rfl

end Sys2Proof
end

