-- ==== Sys2Proof/Laws/Memory.lean ====
section
/-!
SUPPORT. Memory: every operation keeps the canonical form, and a byte reads as what was written to it last.
-/
namespace Sys2Proof.Machine

/-- A lower bound of the addresses may be lowered. -/
theorem Memory.wfFrom_mono {lo lo' : Nat} (m : Memory) (h : lo' ≤ lo) (hm : Memory.wfFrom lo m = true) :
    Memory.wfFrom lo' m = true := by
  cases m with
  | nil => rfl
  | cons c m =>
    simp only [Memory.wfFrom, Bool.and_eq_true, decide_eq_true_eq] at hm ⊢
    exact ⟨⟨⟨by omega, hm.1.1.2⟩, hm.1.2⟩, hm.2⟩

/-- Below every listed address nothing is listed. -/
theorem Memory.get_below {lo a : Nat} (m : Memory) (hm : Memory.wfFrom lo m = true) (h : a < lo) :
    Memory.get m a = Memory.unlisted := by
  induction m generalizing lo with
  | nil => rfl
  | cons c m ih =>
    simp only [Memory.wfFrom, Bool.and_eq_true, decide_eq_true_eq] at hm
    rw [Memory.get, if_neg (by omega), ih hm.2 (by omega)]

/-- Writing a byte keeps the canonical form. -/
theorem Memory.put_wfFrom {lo a : Nat} {b : Byte} (m : Memory) (hm : Memory.wfFrom lo m = true) (hlo : lo ≤ a)
    (ha : a < 2 ^ 32) : Memory.wfFrom lo (Memory.put m a b) = true := by
  induction m generalizing lo with
  | nil =>
    unfold Memory.put
    split
    · rfl
    · rename_i hb
      simp only [Memory.wfFrom, Bool.and_eq_true, decide_eq_true_eq, bne_iff_ne]
      exact ⟨⟨⟨hlo, ha⟩, hb⟩, trivial⟩
  | cons c m ih =>
    have hc := hm
    simp only [Memory.wfFrom, Bool.and_eq_true, decide_eq_true_eq] at hm
    unfold Memory.put
    split
    · split
      · exact hc
      · rename_i h1 hb
        simp only [Memory.wfFrom, Bool.and_eq_true, decide_eq_true_eq]
        exact ⟨⟨⟨hlo, ha⟩, by simp [bne, hb]⟩, ⟨⟨by omega, hm.1.1.2⟩, hm.1.2⟩, hm.2⟩
    · split
      · split
        · exact Memory.wfFrom_mono m (by omega) hm.2
        · rename_i h1 h2 hb
          simp only [Memory.wfFrom, Bool.and_eq_true, decide_eq_true_eq]
          exact ⟨⟨⟨hlo, ha⟩, by simp [bne, hb]⟩, Memory.wfFrom_mono m (by omega) hm.2⟩
      · simp only [Memory.wfFrom, Bool.and_eq_true, decide_eq_true_eq]
        exact ⟨hm.1, ih hm.2 (by omega)⟩

/-- Reading after writing a byte. -/
theorem Memory.get_put {lo a : Nat} {b : Byte} (m : Memory) (hm : Memory.wfFrom lo m = true) (x : Nat) :
    Memory.get (Memory.put m a b) x = if x = a then b else Memory.get m x := by
  induction m generalizing lo with
  | nil =>
    unfold Memory.put
    split
    · rename_i hb
      by_cases hx : x = a <;> simp [Memory.get, hx, hb]
    · by_cases hx : x = a
      · simp [Memory.get, hx]
      · have : ¬ a = x := fun h => hx h.symm
        simp [Memory.get, hx, this]
  | cons c m ih =>
    have hc := hm
    simp only [Memory.wfFrom, Bool.and_eq_true, decide_eq_true_eq] at hm
    unfold Memory.put
    split
    · rename_i h1
      split
      · rename_i hb
        by_cases hx : x = a
        · rw [if_pos hx, hx, hb, Memory.get, if_neg (by omega)]
          exact Memory.get_below m hm.2 (by omega)
        · simp [hx]
      · by_cases hx : x = a
        · simp [Memory.get, hx]
        · have : ¬ a = x := fun h => hx h.symm
          simp [Memory.get, hx, this]
    · split
      · rename_i h1 h2
        split
        · rename_i hb
          by_cases hx : x = a
          · rw [if_pos hx, hx, hb]
            exact Memory.get_below m hm.2 (by omega)
          · have : ¬ c.1 = x := by omega
            simp [hx, Memory.get, this]
        · by_cases hx : x = a
          · simp [Memory.get, hx]
          · have h3 : ¬ c.1 = x := by omega
            have h4 : ¬ a = x := by omega
            simp [hx, Memory.get, h3, h4]
      · by_cases hcx : c.1 = x
        · have : ¬ x = a := by omega
          simp [Memory.get, hcx, this]
        · simp only [Memory.get, hcx, if_false]
          exact ih hm.2

/-- Writing bytes inside the address space keeps the canonical form. -/
theorem Memory.write_wf (bs : List Byte) (m : Memory) (a : Nat) (hm : Memory.wf m = true)
    (ha : a + bs.length ≤ 2 ^ 32) : Memory.wf (Memory.write m a bs) = true := by
  induction bs generalizing m a with
  | nil => exact hm
  | cons b bs ih =>
    rw [List.length_cons] at ha
    exact ih _ _ (Memory.put_wfFrom m hm (Nat.zero_le a) (by omega)) (by omega)

/-- Reading after writing bytes. -/
theorem Memory.get_write (bs : List Byte) (m : Memory) (a x : Nat) (hm : Memory.wf m = true)
    (ha : a + bs.length ≤ 2 ^ 32) :
    Memory.get (Memory.write m a bs) x = if a ≤ x ∧ x < a + bs.length then bs.getD (x - a) 0 else Memory.get m x := by
  induction bs generalizing m a with
  | nil =>
    have : ¬ (a ≤ x ∧ x < a + ([] : List Byte).length) := by simp
    rw [if_neg this]; rfl
  | cons b bs ih =>
    rw [List.length_cons] at ha
    have hw : Memory.wf (Memory.put m a b) = true := Memory.put_wfFrom m hm (Nat.zero_le a) (by omega)
    rw [Memory.write, ih _ _ hw (by omega), Memory.get_put m hm, List.length_cons]
    by_cases hx : x = a
    · subst hx
      rw [if_neg (by omega), if_pos rfl, if_pos (by omega)]
      simp
    · by_cases h : a + 1 ≤ x ∧ x < a + 1 + bs.length
      · rw [if_pos h, if_pos (by omega)]
        obtain ⟨k, hk⟩ : ∃ k, x - a = k + 1 := ⟨x - a - 1, by omega⟩
        have : x - (a + 1) = k := by omega
        rw [hk, this, List.getD_cons_succ]
      · rw [if_neg h, if_neg hx, if_neg (by omega)]

@[simp] theorem lowBytes_length (v : BitVec 128) (n : Nat) : (lowBytes v n).length = n := by
  induction n generalizing v with
  | zero => rfl
  | succ n ih => simp [lowBytes, ih]

/-- Byte `k` of a stored value (R70). -/
theorem lowBytes_getD (v : BitVec 128) (n k : Nat) (h : k < n) :
    (lowBytes v n).getD k 0 = v.extractLsb' (8 * k) 8 := by
  induction n generalizing v k with
  | zero => omega
  | succ n ih =>
    cases k with
    | zero => simp [lowBytes]
    | succ k =>
      rw [lowBytes, List.getD_cons_succ, ih _ _ (by omega)]
      apply BitVec.eq_of_getLsbD_eq
      intro i hi
      simp only [BitVec.getLsbD_extractLsb', BitVec.getLsbD_ushiftRight]
      congr 2
      omega

/-- The value of bytes, the first the least significant (R70). -/
theorem ofBytes_cons_lsb (b : Byte) (bs : List Byte) (i : Nat) (h : i < 8) :
    (ofBytes (b :: bs)).getLsbD i = b.getLsbD i := by
  have h2 : i < 128 := by omega
  simp [ofBytes, h2, h]

/-- The memory of the reset state is in canonical form. -/
theorem reset_mem_wf : Memory.wf State.reset.mem = true := rfl

/-- An aligned access of a width that divides the address space lies inside it. -/
theorem aligned_inside (ea : Word) (n : Nat) (h : ea.toNat % n = 0) (hn : n ∣ 2 ^ 32) :
    ea.toNat + n ≤ 2 ^ 32 := by
  have h1 : ea.toNat < 2 ^ 32 := ea.isLt
  obtain ⟨k, hk⟩ := hn
  obtain ⟨j, hj⟩ := Nat.dvd_of_mod_eq_zero h
  rw [hk] at h1 ⊢
  rw [hj] at h1 ⊢
  have h2 : j < k := Nat.lt_of_mul_lt_mul_left h1
  calc n * j + n = n * (j + 1) := by rw [Nat.mul_succ]
    _ ≤ n * k := Nat.mul_le_mul_left n h2

/-- A store inside the address space keeps the canonical form. -/
theorem State.storeBits_wf (s : State) (ea : Word) (n : Nat) (v : BitVec 128) (hm : Memory.wf s.mem = true)
    (h : ea.toNat + n ≤ 2 ^ 32) : Memory.wf (s.storeBits ea n v).mem = true :=
  Memory.write_wf _ _ _ hm (by rw [lowBytes_length]; exact h)

/-- What a byte reads as after a store (R70). -/
theorem State.storeBits_get (s : State) (ea : Word) (n : Nat) (v : BitVec 128) (x : Nat)
    (hm : Memory.wf s.mem = true) (h : ea.toNat + n ≤ 2 ^ 32) :
    Memory.get (s.storeBits ea n v).mem x =
      if ea.toNat ≤ x ∧ x < ea.toNat + n then v.extractLsb' (8 * (x - ea.toNat)) 8 else Memory.get s.mem x := by
  have := Memory.get_write (lowBytes v n) s.mem ea.toNat x hm (by rw [lowBytes_length]; exact h)
  rw [lowBytes_length] at this
  show Memory.get (Memory.write s.mem ea.toNat (lowBytes v n)) x = _
  rw [this]
  split
  · rw [lowBytes_getD _ _ _ (by omega)]
  · rfl

/-- An access that is made is aligned and populated (R72, R76). -/
theorem State.dataOk_iff (s : State) (ea : Word) (n : Nat) :
    s.dataOk ea n = true ↔ ea.toNat % n = 0 ∧ ∀ k < n, populated s.holes (ea.toNat + k) = true := by
  simp [State.dataOk, List.all_eq_true]

/-- A byte address is populated when no hole holds it (R76). -/
theorem populated_iff (holes : List (Nat × Nat)) (a : Nat) :
    populated holes a = true ↔ ∀ h ∈ holes, ¬ (h.1 ≤ a ∧ a ≤ h.2) := by
  unfold populated
  rw [List.all_eq_true]
  constructor
  · intro h x hx hc
    have := h x hx
    simp [hc] at this
  · intro h x hx
    have := h x hx
    simp only [Bool.not_eq_true', Bool.and_eq_false_iff, decide_eq_false_iff_not]
    omega

end Sys2Proof.Machine
end

