-- ==== Sys2Proof/Laws/State.lean ====
section
/-!
SUPPORT. What each named update of the state leaves alone: one lemma per field per update.
-/
namespace Sys2Proof.Machine

/-! ## setR -/

@[simp] theorem State.setR_f (s : State) (i : Reg) (v : Word) : (s.setR i v).f = s.f := by unfold State.setR; split <;> rfl
@[simp] theorem State.setR_pc (s : State) (i : Reg) (v : Word) : (s.setR i v).pc = s.pc := by unfold State.setR; split <;> rfl
@[simp] theorem State.setR_delay (s : State) (i : Reg) (v : Word) : (s.setR i v).delay = s.delay := by unfold State.setR; split <;> rfl
@[simp] theorem State.setR_delayMode (s : State) (i : Reg) (v : Word) : (s.setR i v).delayMode = s.delayMode := by unfold State.setR; split <;> rfl
@[simp] theorem State.setR_skipCore (s : State) (i : Reg) (v : Word) : (s.setR i v).skipCore = s.skipCore := by unfold State.setR; split <;> rfl
@[simp] theorem State.setR_mode (s : State) (i : Reg) (v : Word) : (s.setR i v).mode = s.mode := by unfold State.setR; split <;> rfl
@[simp] theorem State.setR_armed (s : State) (i : Reg) (v : Word) : (s.setR i v).armed = s.armed := by unfold State.setR; split <;> rfl
@[simp] theorem State.setR_psr (s : State) (i : Reg) (v : Word) : (s.setR i v).psr = s.psr := by unfold State.setR; split <;> rfl
@[simp] theorem State.setR_epsr (s : State) (i : Reg) (v : Word) : (s.setR i v).epsr = s.epsr := by unfold State.setR; split <;> rfl
@[simp] theorem State.setR_dirbase (s : State) (i : Reg) (v : Word) : (s.setR i v).dirbase = s.dirbase := by unfold State.setR; split <;> rfl
@[simp] theorem State.setR_db (s : State) (i : Reg) (v : Word) : (s.setR i v).db = s.db := by unfold State.setR; split <;> rfl
@[simp] theorem State.setR_fsr (s : State) (i : Reg) (v : Word) : (s.setR i v).fsr = s.fsr := by unfold State.setR; split <;> rfl
@[simp] theorem State.setR_firLatched (s : State) (i : Reg) (v : Word) : (s.setR i v).firLatched = s.firLatched := by unfold State.setR; split <;> rfl
@[simp] theorem State.setR_slotFirs (s : State) (i : Reg) (v : Word) : (s.setR i v).slotFirs = s.slotFirs := by unfold State.setR; split <;> rfl
@[simp] theorem State.setR_frames (s : State) (i : Reg) (v : Word) : (s.setR i v).frames = s.frames := by unfold State.setR; split <;> rfl
@[simp] theorem State.setR_kr (s : State) (i : Reg) (v : Word) : (s.setR i v).kr = s.kr := by unfold State.setR; split <;> rfl
@[simp] theorem State.setR_ki (s : State) (i : Reg) (v : Word) : (s.setR i v).ki = s.ki := by unfold State.setR; split <;> rfl
@[simp] theorem State.setR_t (s : State) (i : Reg) (v : Word) : (s.setR i v).t = s.t := by unfold State.setR; split <;> rfl
@[simp] theorem State.setR_merge (s : State) (i : Reg) (v : Word) : (s.setR i v).merge = s.merge := by unfold State.setR; split <;> rfl
@[simp] theorem State.setR_aPipe (s : State) (i : Reg) (v : Word) : (s.setR i v).aPipe = s.aPipe := by unfold State.setR; split <;> rfl
@[simp] theorem State.setR_mPipe (s : State) (i : Reg) (v : Word) : (s.setR i v).mPipe = s.mPipe := by unfold State.setR; split <;> rfl
@[simp] theorem State.setR_gPipe (s : State) (i : Reg) (v : Word) : (s.setR i v).gPipe = s.gPipe := by unfold State.setR; split <;> rfl
@[simp] theorem State.setR_lPipe (s : State) (i : Reg) (v : Word) : (s.setR i v).lPipe = s.lPipe := by unfold State.setR; split <;> rfl
@[simp] theorem State.setR_fpPending (s : State) (i : Reg) (v : Word) : (s.setR i v).fpPending = s.fpPending := by unfold State.setR; split <;> rfl
@[simp] theorem State.setR_busLock (s : State) (i : Reg) (v : Word) : (s.setR i v).busLock = s.busLock := by unfold State.setR; split <;> rfl
@[simp] theorem State.setR_mem (s : State) (i : Reg) (v : Word) : (s.setR i v).mem = s.mem := by unfold State.setR; split <;> rfl
@[simp] theorem State.setR_undef (s : State) (i : Reg) (v : Word) : (s.setR i v).undef = s.undef := by unfold State.setR; split <;> rfl
@[simp] theorem State.setR_stored (s : State) (i : Reg) (v : Word) : (s.setR i v).stored = s.stored := by unfold State.setR; split <;> rfl
@[simp] theorem State.setR_holes (s : State) (i : Reg) (v : Word) : (s.setR i v).holes = s.holes := by unfold State.setR; split <;> rfl
@[simp] theorem State.setR_haltPc (s : State) (i : Reg) (v : Word) : (s.setR i v).haltPc = s.haltPc := by unfold State.setR; split <;> rfl
@[simp] theorem State.setR_free (s : State) (i : Reg) (v : Word) : (s.setR i v).free = s.free := by unfold State.setR; split <;> rfl

/-! ## setFS -/

@[simp] theorem State.setFS_r (s : State) (i : Reg) (v : Word) : (s.setFS i v).r = s.r := by unfold State.setFS; split <;> rfl
@[simp] theorem State.setFS_pc (s : State) (i : Reg) (v : Word) : (s.setFS i v).pc = s.pc := by unfold State.setFS; split <;> rfl
@[simp] theorem State.setFS_delay (s : State) (i : Reg) (v : Word) : (s.setFS i v).delay = s.delay := by unfold State.setFS; split <;> rfl
@[simp] theorem State.setFS_delayMode (s : State) (i : Reg) (v : Word) : (s.setFS i v).delayMode = s.delayMode := by unfold State.setFS; split <;> rfl
@[simp] theorem State.setFS_skipCore (s : State) (i : Reg) (v : Word) : (s.setFS i v).skipCore = s.skipCore := by unfold State.setFS; split <;> rfl
@[simp] theorem State.setFS_mode (s : State) (i : Reg) (v : Word) : (s.setFS i v).mode = s.mode := by unfold State.setFS; split <;> rfl
@[simp] theorem State.setFS_armed (s : State) (i : Reg) (v : Word) : (s.setFS i v).armed = s.armed := by unfold State.setFS; split <;> rfl
@[simp] theorem State.setFS_psr (s : State) (i : Reg) (v : Word) : (s.setFS i v).psr = s.psr := by unfold State.setFS; split <;> rfl
@[simp] theorem State.setFS_epsr (s : State) (i : Reg) (v : Word) : (s.setFS i v).epsr = s.epsr := by unfold State.setFS; split <;> rfl
@[simp] theorem State.setFS_dirbase (s : State) (i : Reg) (v : Word) : (s.setFS i v).dirbase = s.dirbase := by unfold State.setFS; split <;> rfl
@[simp] theorem State.setFS_db (s : State) (i : Reg) (v : Word) : (s.setFS i v).db = s.db := by unfold State.setFS; split <;> rfl
@[simp] theorem State.setFS_fsr (s : State) (i : Reg) (v : Word) : (s.setFS i v).fsr = s.fsr := by unfold State.setFS; split <;> rfl
@[simp] theorem State.setFS_firLatched (s : State) (i : Reg) (v : Word) : (s.setFS i v).firLatched = s.firLatched := by unfold State.setFS; split <;> rfl
@[simp] theorem State.setFS_slotFirs (s : State) (i : Reg) (v : Word) : (s.setFS i v).slotFirs = s.slotFirs := by unfold State.setFS; split <;> rfl
@[simp] theorem State.setFS_frames (s : State) (i : Reg) (v : Word) : (s.setFS i v).frames = s.frames := by unfold State.setFS; split <;> rfl
@[simp] theorem State.setFS_kr (s : State) (i : Reg) (v : Word) : (s.setFS i v).kr = s.kr := by unfold State.setFS; split <;> rfl
@[simp] theorem State.setFS_ki (s : State) (i : Reg) (v : Word) : (s.setFS i v).ki = s.ki := by unfold State.setFS; split <;> rfl
@[simp] theorem State.setFS_t (s : State) (i : Reg) (v : Word) : (s.setFS i v).t = s.t := by unfold State.setFS; split <;> rfl
@[simp] theorem State.setFS_merge (s : State) (i : Reg) (v : Word) : (s.setFS i v).merge = s.merge := by unfold State.setFS; split <;> rfl
@[simp] theorem State.setFS_aPipe (s : State) (i : Reg) (v : Word) : (s.setFS i v).aPipe = s.aPipe := by unfold State.setFS; split <;> rfl
@[simp] theorem State.setFS_mPipe (s : State) (i : Reg) (v : Word) : (s.setFS i v).mPipe = s.mPipe := by unfold State.setFS; split <;> rfl
@[simp] theorem State.setFS_gPipe (s : State) (i : Reg) (v : Word) : (s.setFS i v).gPipe = s.gPipe := by unfold State.setFS; split <;> rfl
@[simp] theorem State.setFS_lPipe (s : State) (i : Reg) (v : Word) : (s.setFS i v).lPipe = s.lPipe := by unfold State.setFS; split <;> rfl
@[simp] theorem State.setFS_fpPending (s : State) (i : Reg) (v : Word) : (s.setFS i v).fpPending = s.fpPending := by unfold State.setFS; split <;> rfl
@[simp] theorem State.setFS_busLock (s : State) (i : Reg) (v : Word) : (s.setFS i v).busLock = s.busLock := by unfold State.setFS; split <;> rfl
@[simp] theorem State.setFS_mem (s : State) (i : Reg) (v : Word) : (s.setFS i v).mem = s.mem := by unfold State.setFS; split <;> rfl
@[simp] theorem State.setFS_undef (s : State) (i : Reg) (v : Word) : (s.setFS i v).undef = s.undef := by unfold State.setFS; split <;> rfl
@[simp] theorem State.setFS_stored (s : State) (i : Reg) (v : Word) : (s.setFS i v).stored = s.stored := by unfold State.setFS; split <;> rfl
@[simp] theorem State.setFS_holes (s : State) (i : Reg) (v : Word) : (s.setFS i v).holes = s.holes := by unfold State.setFS; split <;> rfl
@[simp] theorem State.setFS_haltPc (s : State) (i : Reg) (v : Word) : (s.setFS i v).haltPc = s.haltPc := by unfold State.setFS; split <;> rfl
@[simp] theorem State.setFS_free (s : State) (i : Reg) (v : Word) : (s.setFS i v).free = s.free := by unfold State.setFS; split <;> rfl

/-! ## setFD -/

@[simp] theorem State.setFD_r (s : State) (i : Reg) (v : DWord) : (s.setFD i v).r = s.r := by simp [State.setFD]
@[simp] theorem State.setFD_pc (s : State) (i : Reg) (v : DWord) : (s.setFD i v).pc = s.pc := by simp [State.setFD]
@[simp] theorem State.setFD_delay (s : State) (i : Reg) (v : DWord) : (s.setFD i v).delay = s.delay := by simp [State.setFD]
@[simp] theorem State.setFD_delayMode (s : State) (i : Reg) (v : DWord) : (s.setFD i v).delayMode = s.delayMode := by simp [State.setFD]
@[simp] theorem State.setFD_skipCore (s : State) (i : Reg) (v : DWord) : (s.setFD i v).skipCore = s.skipCore := by simp [State.setFD]
@[simp] theorem State.setFD_mode (s : State) (i : Reg) (v : DWord) : (s.setFD i v).mode = s.mode := by simp [State.setFD]
@[simp] theorem State.setFD_armed (s : State) (i : Reg) (v : DWord) : (s.setFD i v).armed = s.armed := by simp [State.setFD]
@[simp] theorem State.setFD_psr (s : State) (i : Reg) (v : DWord) : (s.setFD i v).psr = s.psr := by simp [State.setFD]
@[simp] theorem State.setFD_epsr (s : State) (i : Reg) (v : DWord) : (s.setFD i v).epsr = s.epsr := by simp [State.setFD]
@[simp] theorem State.setFD_dirbase (s : State) (i : Reg) (v : DWord) : (s.setFD i v).dirbase = s.dirbase := by simp [State.setFD]
@[simp] theorem State.setFD_db (s : State) (i : Reg) (v : DWord) : (s.setFD i v).db = s.db := by simp [State.setFD]
@[simp] theorem State.setFD_fsr (s : State) (i : Reg) (v : DWord) : (s.setFD i v).fsr = s.fsr := by simp [State.setFD]
@[simp] theorem State.setFD_firLatched (s : State) (i : Reg) (v : DWord) : (s.setFD i v).firLatched = s.firLatched := by simp [State.setFD]
@[simp] theorem State.setFD_slotFirs (s : State) (i : Reg) (v : DWord) : (s.setFD i v).slotFirs = s.slotFirs := by simp [State.setFD]
@[simp] theorem State.setFD_frames (s : State) (i : Reg) (v : DWord) : (s.setFD i v).frames = s.frames := by simp [State.setFD]
@[simp] theorem State.setFD_kr (s : State) (i : Reg) (v : DWord) : (s.setFD i v).kr = s.kr := by simp [State.setFD]
@[simp] theorem State.setFD_ki (s : State) (i : Reg) (v : DWord) : (s.setFD i v).ki = s.ki := by simp [State.setFD]
@[simp] theorem State.setFD_t (s : State) (i : Reg) (v : DWord) : (s.setFD i v).t = s.t := by simp [State.setFD]
@[simp] theorem State.setFD_merge (s : State) (i : Reg) (v : DWord) : (s.setFD i v).merge = s.merge := by simp [State.setFD]
@[simp] theorem State.setFD_aPipe (s : State) (i : Reg) (v : DWord) : (s.setFD i v).aPipe = s.aPipe := by simp [State.setFD]
@[simp] theorem State.setFD_mPipe (s : State) (i : Reg) (v : DWord) : (s.setFD i v).mPipe = s.mPipe := by simp [State.setFD]
@[simp] theorem State.setFD_gPipe (s : State) (i : Reg) (v : DWord) : (s.setFD i v).gPipe = s.gPipe := by simp [State.setFD]
@[simp] theorem State.setFD_lPipe (s : State) (i : Reg) (v : DWord) : (s.setFD i v).lPipe = s.lPipe := by simp [State.setFD]
@[simp] theorem State.setFD_fpPending (s : State) (i : Reg) (v : DWord) : (s.setFD i v).fpPending = s.fpPending := by simp [State.setFD]
@[simp] theorem State.setFD_busLock (s : State) (i : Reg) (v : DWord) : (s.setFD i v).busLock = s.busLock := by simp [State.setFD]
@[simp] theorem State.setFD_mem (s : State) (i : Reg) (v : DWord) : (s.setFD i v).mem = s.mem := by simp [State.setFD]
@[simp] theorem State.setFD_undef (s : State) (i : Reg) (v : DWord) : (s.setFD i v).undef = s.undef := by simp [State.setFD]
@[simp] theorem State.setFD_stored (s : State) (i : Reg) (v : DWord) : (s.setFD i v).stored = s.stored := by simp [State.setFD]
@[simp] theorem State.setFD_holes (s : State) (i : Reg) (v : DWord) : (s.setFD i v).holes = s.holes := by simp [State.setFD]
@[simp] theorem State.setFD_haltPc (s : State) (i : Reg) (v : DWord) : (s.setFD i v).haltPc = s.haltPc := by simp [State.setFD]
@[simp] theorem State.setFD_free (s : State) (i : Reg) (v : DWord) : (s.setFD i v).free = s.free := by simp [State.setFD]

/-! ## setFQ -/

@[simp] theorem State.setFQ_r (s : State) (i : Reg) (v : BitVec 128) : (s.setFQ i v).r = s.r := by simp [State.setFQ]
@[simp] theorem State.setFQ_pc (s : State) (i : Reg) (v : BitVec 128) : (s.setFQ i v).pc = s.pc := by simp [State.setFQ]
@[simp] theorem State.setFQ_delay (s : State) (i : Reg) (v : BitVec 128) : (s.setFQ i v).delay = s.delay := by simp [State.setFQ]
@[simp] theorem State.setFQ_delayMode (s : State) (i : Reg) (v : BitVec 128) : (s.setFQ i v).delayMode = s.delayMode := by simp [State.setFQ]
@[simp] theorem State.setFQ_skipCore (s : State) (i : Reg) (v : BitVec 128) : (s.setFQ i v).skipCore = s.skipCore := by simp [State.setFQ]
@[simp] theorem State.setFQ_mode (s : State) (i : Reg) (v : BitVec 128) : (s.setFQ i v).mode = s.mode := by simp [State.setFQ]
@[simp] theorem State.setFQ_armed (s : State) (i : Reg) (v : BitVec 128) : (s.setFQ i v).armed = s.armed := by simp [State.setFQ]
@[simp] theorem State.setFQ_psr (s : State) (i : Reg) (v : BitVec 128) : (s.setFQ i v).psr = s.psr := by simp [State.setFQ]
@[simp] theorem State.setFQ_epsr (s : State) (i : Reg) (v : BitVec 128) : (s.setFQ i v).epsr = s.epsr := by simp [State.setFQ]
@[simp] theorem State.setFQ_dirbase (s : State) (i : Reg) (v : BitVec 128) : (s.setFQ i v).dirbase = s.dirbase := by simp [State.setFQ]
@[simp] theorem State.setFQ_db (s : State) (i : Reg) (v : BitVec 128) : (s.setFQ i v).db = s.db := by simp [State.setFQ]
@[simp] theorem State.setFQ_fsr (s : State) (i : Reg) (v : BitVec 128) : (s.setFQ i v).fsr = s.fsr := by simp [State.setFQ]
@[simp] theorem State.setFQ_firLatched (s : State) (i : Reg) (v : BitVec 128) : (s.setFQ i v).firLatched = s.firLatched := by simp [State.setFQ]
@[simp] theorem State.setFQ_slotFirs (s : State) (i : Reg) (v : BitVec 128) : (s.setFQ i v).slotFirs = s.slotFirs := by simp [State.setFQ]
@[simp] theorem State.setFQ_frames (s : State) (i : Reg) (v : BitVec 128) : (s.setFQ i v).frames = s.frames := by simp [State.setFQ]
@[simp] theorem State.setFQ_kr (s : State) (i : Reg) (v : BitVec 128) : (s.setFQ i v).kr = s.kr := by simp [State.setFQ]
@[simp] theorem State.setFQ_ki (s : State) (i : Reg) (v : BitVec 128) : (s.setFQ i v).ki = s.ki := by simp [State.setFQ]
@[simp] theorem State.setFQ_t (s : State) (i : Reg) (v : BitVec 128) : (s.setFQ i v).t = s.t := by simp [State.setFQ]
@[simp] theorem State.setFQ_merge (s : State) (i : Reg) (v : BitVec 128) : (s.setFQ i v).merge = s.merge := by simp [State.setFQ]
@[simp] theorem State.setFQ_aPipe (s : State) (i : Reg) (v : BitVec 128) : (s.setFQ i v).aPipe = s.aPipe := by simp [State.setFQ]
@[simp] theorem State.setFQ_mPipe (s : State) (i : Reg) (v : BitVec 128) : (s.setFQ i v).mPipe = s.mPipe := by simp [State.setFQ]
@[simp] theorem State.setFQ_gPipe (s : State) (i : Reg) (v : BitVec 128) : (s.setFQ i v).gPipe = s.gPipe := by simp [State.setFQ]
@[simp] theorem State.setFQ_lPipe (s : State) (i : Reg) (v : BitVec 128) : (s.setFQ i v).lPipe = s.lPipe := by simp [State.setFQ]
@[simp] theorem State.setFQ_fpPending (s : State) (i : Reg) (v : BitVec 128) : (s.setFQ i v).fpPending = s.fpPending := by simp [State.setFQ]
@[simp] theorem State.setFQ_busLock (s : State) (i : Reg) (v : BitVec 128) : (s.setFQ i v).busLock = s.busLock := by simp [State.setFQ]
@[simp] theorem State.setFQ_mem (s : State) (i : Reg) (v : BitVec 128) : (s.setFQ i v).mem = s.mem := by simp [State.setFQ]
@[simp] theorem State.setFQ_undef (s : State) (i : Reg) (v : BitVec 128) : (s.setFQ i v).undef = s.undef := by simp [State.setFQ]
@[simp] theorem State.setFQ_stored (s : State) (i : Reg) (v : BitVec 128) : (s.setFQ i v).stored = s.stored := by simp [State.setFQ]
@[simp] theorem State.setFQ_holes (s : State) (i : Reg) (v : BitVec 128) : (s.setFQ i v).holes = s.holes := by simp [State.setFQ]
@[simp] theorem State.setFQ_haltPc (s : State) (i : Reg) (v : BitVec 128) : (s.setFQ i v).haltPc = s.haltPc := by simp [State.setFQ]
@[simp] theorem State.setFQ_free (s : State) (i : Reg) (v : BitVec 128) : (s.setFQ i v).free = s.free := by simp [State.setFQ]

/-! ## fwrite -/

@[simp] theorem State.fwrite_r (s : State) (i : Reg) (p : Prec) (v : DWord) : (s.fwrite i p v).r = s.r := by cases p <;> simp [State.fwrite]
@[simp] theorem State.fwrite_pc (s : State) (i : Reg) (p : Prec) (v : DWord) : (s.fwrite i p v).pc = s.pc := by cases p <;> simp [State.fwrite]
@[simp] theorem State.fwrite_delay (s : State) (i : Reg) (p : Prec) (v : DWord) : (s.fwrite i p v).delay = s.delay := by cases p <;> simp [State.fwrite]
@[simp] theorem State.fwrite_delayMode (s : State) (i : Reg) (p : Prec) (v : DWord) : (s.fwrite i p v).delayMode = s.delayMode := by cases p <;> simp [State.fwrite]
@[simp] theorem State.fwrite_skipCore (s : State) (i : Reg) (p : Prec) (v : DWord) : (s.fwrite i p v).skipCore = s.skipCore := by cases p <;> simp [State.fwrite]
@[simp] theorem State.fwrite_mode (s : State) (i : Reg) (p : Prec) (v : DWord) : (s.fwrite i p v).mode = s.mode := by cases p <;> simp [State.fwrite]
@[simp] theorem State.fwrite_armed (s : State) (i : Reg) (p : Prec) (v : DWord) : (s.fwrite i p v).armed = s.armed := by cases p <;> simp [State.fwrite]
@[simp] theorem State.fwrite_psr (s : State) (i : Reg) (p : Prec) (v : DWord) : (s.fwrite i p v).psr = s.psr := by cases p <;> simp [State.fwrite]
@[simp] theorem State.fwrite_epsr (s : State) (i : Reg) (p : Prec) (v : DWord) : (s.fwrite i p v).epsr = s.epsr := by cases p <;> simp [State.fwrite]
@[simp] theorem State.fwrite_dirbase (s : State) (i : Reg) (p : Prec) (v : DWord) : (s.fwrite i p v).dirbase = s.dirbase := by cases p <;> simp [State.fwrite]
@[simp] theorem State.fwrite_db (s : State) (i : Reg) (p : Prec) (v : DWord) : (s.fwrite i p v).db = s.db := by cases p <;> simp [State.fwrite]
@[simp] theorem State.fwrite_fsr (s : State) (i : Reg) (p : Prec) (v : DWord) : (s.fwrite i p v).fsr = s.fsr := by cases p <;> simp [State.fwrite]
@[simp] theorem State.fwrite_firLatched (s : State) (i : Reg) (p : Prec) (v : DWord) : (s.fwrite i p v).firLatched = s.firLatched := by cases p <;> simp [State.fwrite]
@[simp] theorem State.fwrite_slotFirs (s : State) (i : Reg) (p : Prec) (v : DWord) : (s.fwrite i p v).slotFirs = s.slotFirs := by cases p <;> simp [State.fwrite]
@[simp] theorem State.fwrite_frames (s : State) (i : Reg) (p : Prec) (v : DWord) : (s.fwrite i p v).frames = s.frames := by cases p <;> simp [State.fwrite]
@[simp] theorem State.fwrite_kr (s : State) (i : Reg) (p : Prec) (v : DWord) : (s.fwrite i p v).kr = s.kr := by cases p <;> simp [State.fwrite]
@[simp] theorem State.fwrite_ki (s : State) (i : Reg) (p : Prec) (v : DWord) : (s.fwrite i p v).ki = s.ki := by cases p <;> simp [State.fwrite]
@[simp] theorem State.fwrite_t (s : State) (i : Reg) (p : Prec) (v : DWord) : (s.fwrite i p v).t = s.t := by cases p <;> simp [State.fwrite]
@[simp] theorem State.fwrite_merge (s : State) (i : Reg) (p : Prec) (v : DWord) : (s.fwrite i p v).merge = s.merge := by cases p <;> simp [State.fwrite]
@[simp] theorem State.fwrite_aPipe (s : State) (i : Reg) (p : Prec) (v : DWord) : (s.fwrite i p v).aPipe = s.aPipe := by cases p <;> simp [State.fwrite]
@[simp] theorem State.fwrite_mPipe (s : State) (i : Reg) (p : Prec) (v : DWord) : (s.fwrite i p v).mPipe = s.mPipe := by cases p <;> simp [State.fwrite]
@[simp] theorem State.fwrite_gPipe (s : State) (i : Reg) (p : Prec) (v : DWord) : (s.fwrite i p v).gPipe = s.gPipe := by cases p <;> simp [State.fwrite]
@[simp] theorem State.fwrite_lPipe (s : State) (i : Reg) (p : Prec) (v : DWord) : (s.fwrite i p v).lPipe = s.lPipe := by cases p <;> simp [State.fwrite]
@[simp] theorem State.fwrite_fpPending (s : State) (i : Reg) (p : Prec) (v : DWord) : (s.fwrite i p v).fpPending = s.fpPending := by cases p <;> simp [State.fwrite]
@[simp] theorem State.fwrite_busLock (s : State) (i : Reg) (p : Prec) (v : DWord) : (s.fwrite i p v).busLock = s.busLock := by cases p <;> simp [State.fwrite]
@[simp] theorem State.fwrite_mem (s : State) (i : Reg) (p : Prec) (v : DWord) : (s.fwrite i p v).mem = s.mem := by cases p <;> simp [State.fwrite]
@[simp] theorem State.fwrite_undef (s : State) (i : Reg) (p : Prec) (v : DWord) : (s.fwrite i p v).undef = s.undef := by cases p <;> simp [State.fwrite]
@[simp] theorem State.fwrite_stored (s : State) (i : Reg) (p : Prec) (v : DWord) : (s.fwrite i p v).stored = s.stored := by cases p <;> simp [State.fwrite]
@[simp] theorem State.fwrite_holes (s : State) (i : Reg) (p : Prec) (v : DWord) : (s.fwrite i p v).holes = s.holes := by cases p <;> simp [State.fwrite]
@[simp] theorem State.fwrite_haltPc (s : State) (i : Reg) (p : Prec) (v : DWord) : (s.fwrite i p v).haltPc = s.haltPc := by cases p <;> simp [State.fwrite]
@[simp] theorem State.fwrite_free (s : State) (i : Reg) (p : Prec) (v : DWord) : (s.fwrite i p v).free = s.free := by cases p <;> simp [State.fwrite]

/-! ## tick -/

@[simp] theorem State.tick_r (s : State) : (s.tick).r = s.r := rfl
@[simp] theorem State.tick_f (s : State) : (s.tick).f = s.f := rfl
@[simp] theorem State.tick_pc (s : State) : (s.tick).pc = s.pc := rfl
@[simp] theorem State.tick_delay (s : State) : (s.tick).delay = s.delay := rfl
@[simp] theorem State.tick_delayMode (s : State) : (s.tick).delayMode = s.delayMode := rfl
@[simp] theorem State.tick_skipCore (s : State) : (s.tick).skipCore = s.skipCore := rfl
@[simp] theorem State.tick_mode (s : State) : (s.tick).mode = s.mode := rfl
@[simp] theorem State.tick_armed (s : State) : (s.tick).armed = s.armed := rfl
@[simp] theorem State.tick_psr (s : State) : (s.tick).psr = s.psr := rfl
@[simp] theorem State.tick_epsr (s : State) : (s.tick).epsr = s.epsr := rfl
@[simp] theorem State.tick_dirbase (s : State) : (s.tick).dirbase = s.dirbase := rfl
@[simp] theorem State.tick_db (s : State) : (s.tick).db = s.db := rfl
@[simp] theorem State.tick_fsr (s : State) : (s.tick).fsr = s.fsr := rfl
@[simp] theorem State.tick_firLatched (s : State) : (s.tick).firLatched = s.firLatched := rfl
@[simp] theorem State.tick_slotFirs (s : State) : (s.tick).slotFirs = s.slotFirs := rfl
@[simp] theorem State.tick_frames (s : State) : (s.tick).frames = s.frames := rfl
@[simp] theorem State.tick_kr (s : State) : (s.tick).kr = s.kr := rfl
@[simp] theorem State.tick_ki (s : State) : (s.tick).ki = s.ki := rfl
@[simp] theorem State.tick_t (s : State) : (s.tick).t = s.t := rfl
@[simp] theorem State.tick_merge (s : State) : (s.tick).merge = s.merge := rfl
@[simp] theorem State.tick_aPipe (s : State) : (s.tick).aPipe = s.aPipe := rfl
@[simp] theorem State.tick_mPipe (s : State) : (s.tick).mPipe = s.mPipe := rfl
@[simp] theorem State.tick_gPipe (s : State) : (s.tick).gPipe = s.gPipe := rfl
@[simp] theorem State.tick_lPipe (s : State) : (s.tick).lPipe = s.lPipe := rfl
@[simp] theorem State.tick_fpPending (s : State) : (s.tick).fpPending = s.fpPending := rfl
@[simp] theorem State.tick_busLock (s : State) : (s.tick).busLock = s.busLock := rfl
@[simp] theorem State.tick_mem (s : State) : (s.tick).mem = s.mem := rfl
@[simp] theorem State.tick_undef (s : State) : (s.tick).undef = s.undef := rfl
@[simp] theorem State.tick_stored (s : State) : (s.tick).stored = s.stored := rfl
@[simp] theorem State.tick_holes (s : State) : (s.tick).holes = s.holes := rfl
@[simp] theorem State.tick_haltPc (s : State) : (s.tick).haltPc = s.haltPc := rfl

/-! ## noteResult -/

@[simp] theorem State.noteResult_r (s : State) (o : FpOut) : (s.noteResult o).r = s.r := by unfold State.noteResult; split <;> rfl
@[simp] theorem State.noteResult_f (s : State) (o : FpOut) : (s.noteResult o).f = s.f := by unfold State.noteResult; split <;> rfl
@[simp] theorem State.noteResult_pc (s : State) (o : FpOut) : (s.noteResult o).pc = s.pc := by unfold State.noteResult; split <;> rfl
@[simp] theorem State.noteResult_delay (s : State) (o : FpOut) : (s.noteResult o).delay = s.delay := by unfold State.noteResult; split <;> rfl
@[simp] theorem State.noteResult_delayMode (s : State) (o : FpOut) : (s.noteResult o).delayMode = s.delayMode := by unfold State.noteResult; split <;> rfl
@[simp] theorem State.noteResult_skipCore (s : State) (o : FpOut) : (s.noteResult o).skipCore = s.skipCore := by unfold State.noteResult; split <;> rfl
@[simp] theorem State.noteResult_mode (s : State) (o : FpOut) : (s.noteResult o).mode = s.mode := by unfold State.noteResult; split <;> rfl
@[simp] theorem State.noteResult_armed (s : State) (o : FpOut) : (s.noteResult o).armed = s.armed := by unfold State.noteResult; split <;> rfl
@[simp] theorem State.noteResult_psr (s : State) (o : FpOut) : (s.noteResult o).psr = s.psr := by unfold State.noteResult; split <;> rfl
@[simp] theorem State.noteResult_epsr (s : State) (o : FpOut) : (s.noteResult o).epsr = s.epsr := by unfold State.noteResult; split <;> rfl
@[simp] theorem State.noteResult_dirbase (s : State) (o : FpOut) : (s.noteResult o).dirbase = s.dirbase := by unfold State.noteResult; split <;> rfl
@[simp] theorem State.noteResult_db (s : State) (o : FpOut) : (s.noteResult o).db = s.db := by unfold State.noteResult; split <;> rfl
@[simp] theorem State.noteResult_fsr (s : State) (o : FpOut) : (s.noteResult o).fsr = s.fsr := by unfold State.noteResult; split <;> rfl
@[simp] theorem State.noteResult_firLatched (s : State) (o : FpOut) : (s.noteResult o).firLatched = s.firLatched := by unfold State.noteResult; split <;> rfl
@[simp] theorem State.noteResult_slotFirs (s : State) (o : FpOut) : (s.noteResult o).slotFirs = s.slotFirs := by unfold State.noteResult; split <;> rfl
@[simp] theorem State.noteResult_frames (s : State) (o : FpOut) : (s.noteResult o).frames = s.frames := by unfold State.noteResult; split <;> rfl
@[simp] theorem State.noteResult_kr (s : State) (o : FpOut) : (s.noteResult o).kr = s.kr := by unfold State.noteResult; split <;> rfl
@[simp] theorem State.noteResult_ki (s : State) (o : FpOut) : (s.noteResult o).ki = s.ki := by unfold State.noteResult; split <;> rfl
@[simp] theorem State.noteResult_t (s : State) (o : FpOut) : (s.noteResult o).t = s.t := by unfold State.noteResult; split <;> rfl
@[simp] theorem State.noteResult_merge (s : State) (o : FpOut) : (s.noteResult o).merge = s.merge := by unfold State.noteResult; split <;> rfl
@[simp] theorem State.noteResult_aPipe (s : State) (o : FpOut) : (s.noteResult o).aPipe = s.aPipe := by unfold State.noteResult; split <;> rfl
@[simp] theorem State.noteResult_mPipe (s : State) (o : FpOut) : (s.noteResult o).mPipe = s.mPipe := by unfold State.noteResult; split <;> rfl
@[simp] theorem State.noteResult_gPipe (s : State) (o : FpOut) : (s.noteResult o).gPipe = s.gPipe := by unfold State.noteResult; split <;> rfl
@[simp] theorem State.noteResult_lPipe (s : State) (o : FpOut) : (s.noteResult o).lPipe = s.lPipe := by unfold State.noteResult; split <;> rfl
@[simp] theorem State.noteResult_busLock (s : State) (o : FpOut) : (s.noteResult o).busLock = s.busLock := by unfold State.noteResult; split <;> rfl
@[simp] theorem State.noteResult_mem (s : State) (o : FpOut) : (s.noteResult o).mem = s.mem := by unfold State.noteResult; split <;> rfl
@[simp] theorem State.noteResult_undef (s : State) (o : FpOut) : (s.noteResult o).undef = s.undef := by unfold State.noteResult; split <;> rfl
@[simp] theorem State.noteResult_stored (s : State) (o : FpOut) : (s.noteResult o).stored = s.stored := by unfold State.noteResult; split <;> rfl
@[simp] theorem State.noteResult_holes (s : State) (o : FpOut) : (s.noteResult o).holes = s.holes := by unfold State.noteResult; split <;> rfl
@[simp] theorem State.noteResult_haltPc (s : State) (o : FpOut) : (s.noteResult o).haltPc = s.haltPc := by unfold State.noteResult; split <;> rfl
@[simp] theorem State.noteResult_free (s : State) (o : FpOut) : (s.noteResult o).free = s.free := by unfold State.noteResult; split <;> rfl

/-! ## accessed -/

@[simp] theorem State.accessed_r (s : State) : (s.accessed).r = s.r := by unfold State.accessed; split <;> rfl
@[simp] theorem State.accessed_f (s : State) : (s.accessed).f = s.f := by unfold State.accessed; split <;> rfl
@[simp] theorem State.accessed_pc (s : State) : (s.accessed).pc = s.pc := by unfold State.accessed; split <;> rfl
@[simp] theorem State.accessed_delay (s : State) : (s.accessed).delay = s.delay := by unfold State.accessed; split <;> rfl
@[simp] theorem State.accessed_delayMode (s : State) : (s.accessed).delayMode = s.delayMode := by unfold State.accessed; split <;> rfl
@[simp] theorem State.accessed_skipCore (s : State) : (s.accessed).skipCore = s.skipCore := by unfold State.accessed; split <;> rfl
@[simp] theorem State.accessed_mode (s : State) : (s.accessed).mode = s.mode := by unfold State.accessed; split <;> rfl
@[simp] theorem State.accessed_armed (s : State) : (s.accessed).armed = s.armed := by unfold State.accessed; split <;> rfl
@[simp] theorem State.accessed_psr (s : State) : (s.accessed).psr = s.psr := by unfold State.accessed; split <;> rfl
@[simp] theorem State.accessed_epsr (s : State) : (s.accessed).epsr = s.epsr := by unfold State.accessed; split <;> rfl
@[simp] theorem State.accessed_dirbase (s : State) : (s.accessed).dirbase = s.dirbase := by unfold State.accessed; split <;> rfl
@[simp] theorem State.accessed_db (s : State) : (s.accessed).db = s.db := by unfold State.accessed; split <;> rfl
@[simp] theorem State.accessed_fsr (s : State) : (s.accessed).fsr = s.fsr := by unfold State.accessed; split <;> rfl
@[simp] theorem State.accessed_firLatched (s : State) : (s.accessed).firLatched = s.firLatched := by unfold State.accessed; split <;> rfl
@[simp] theorem State.accessed_slotFirs (s : State) : (s.accessed).slotFirs = s.slotFirs := by unfold State.accessed; split <;> rfl
@[simp] theorem State.accessed_frames (s : State) : (s.accessed).frames = s.frames := by unfold State.accessed; split <;> rfl
@[simp] theorem State.accessed_kr (s : State) : (s.accessed).kr = s.kr := by unfold State.accessed; split <;> rfl
@[simp] theorem State.accessed_ki (s : State) : (s.accessed).ki = s.ki := by unfold State.accessed; split <;> rfl
@[simp] theorem State.accessed_t (s : State) : (s.accessed).t = s.t := by unfold State.accessed; split <;> rfl
@[simp] theorem State.accessed_merge (s : State) : (s.accessed).merge = s.merge := by unfold State.accessed; split <;> rfl
@[simp] theorem State.accessed_aPipe (s : State) : (s.accessed).aPipe = s.aPipe := by unfold State.accessed; split <;> rfl
@[simp] theorem State.accessed_mPipe (s : State) : (s.accessed).mPipe = s.mPipe := by unfold State.accessed; split <;> rfl
@[simp] theorem State.accessed_gPipe (s : State) : (s.accessed).gPipe = s.gPipe := by unfold State.accessed; split <;> rfl
@[simp] theorem State.accessed_lPipe (s : State) : (s.accessed).lPipe = s.lPipe := by unfold State.accessed; split <;> rfl
@[simp] theorem State.accessed_fpPending (s : State) : (s.accessed).fpPending = s.fpPending := by unfold State.accessed; split <;> rfl
@[simp] theorem State.accessed_mem (s : State) : (s.accessed).mem = s.mem := by unfold State.accessed; split <;> rfl
@[simp] theorem State.accessed_undef (s : State) : (s.accessed).undef = s.undef := by unfold State.accessed; split <;> rfl
@[simp] theorem State.accessed_stored (s : State) : (s.accessed).stored = s.stored := by unfold State.accessed; split <;> rfl
@[simp] theorem State.accessed_holes (s : State) : (s.accessed).holes = s.holes := by unfold State.accessed; split <;> rfl
@[simp] theorem State.accessed_haltPc (s : State) : (s.accessed).haltPc = s.haltPc := by unfold State.accessed; split <;> rfl
@[simp] theorem State.accessed_free (s : State) : (s.accessed).free = s.free := by unfold State.accessed; split <;> rfl

/-! ## loaded -/

@[simp] theorem State.loaded_r (s : State) (ea : Word) (n : Nat) : (s.loaded ea n).r = s.r := by unfold State.loaded; split <;> simp
@[simp] theorem State.loaded_f (s : State) (ea : Word) (n : Nat) : (s.loaded ea n).f = s.f := by unfold State.loaded; split <;> simp
@[simp] theorem State.loaded_pc (s : State) (ea : Word) (n : Nat) : (s.loaded ea n).pc = s.pc := by unfold State.loaded; split <;> simp
@[simp] theorem State.loaded_delay (s : State) (ea : Word) (n : Nat) : (s.loaded ea n).delay = s.delay := by unfold State.loaded; split <;> simp
@[simp] theorem State.loaded_delayMode (s : State) (ea : Word) (n : Nat) : (s.loaded ea n).delayMode = s.delayMode := by unfold State.loaded; split <;> simp
@[simp] theorem State.loaded_skipCore (s : State) (ea : Word) (n : Nat) : (s.loaded ea n).skipCore = s.skipCore := by unfold State.loaded; split <;> simp
@[simp] theorem State.loaded_mode (s : State) (ea : Word) (n : Nat) : (s.loaded ea n).mode = s.mode := by unfold State.loaded; split <;> simp
@[simp] theorem State.loaded_armed (s : State) (ea : Word) (n : Nat) : (s.loaded ea n).armed = s.armed := by unfold State.loaded; split <;> simp
@[simp] theorem State.loaded_psr (s : State) (ea : Word) (n : Nat) : (s.loaded ea n).psr = s.psr := by unfold State.loaded; split <;> simp
@[simp] theorem State.loaded_epsr (s : State) (ea : Word) (n : Nat) : (s.loaded ea n).epsr = s.epsr := by unfold State.loaded; split <;> simp
@[simp] theorem State.loaded_dirbase (s : State) (ea : Word) (n : Nat) : (s.loaded ea n).dirbase = s.dirbase := by unfold State.loaded; split <;> simp
@[simp] theorem State.loaded_db (s : State) (ea : Word) (n : Nat) : (s.loaded ea n).db = s.db := by unfold State.loaded; split <;> simp
@[simp] theorem State.loaded_fsr (s : State) (ea : Word) (n : Nat) : (s.loaded ea n).fsr = s.fsr := by unfold State.loaded; split <;> simp
@[simp] theorem State.loaded_firLatched (s : State) (ea : Word) (n : Nat) : (s.loaded ea n).firLatched = s.firLatched := by unfold State.loaded; split <;> simp
@[simp] theorem State.loaded_slotFirs (s : State) (ea : Word) (n : Nat) : (s.loaded ea n).slotFirs = s.slotFirs := by unfold State.loaded; split <;> simp
@[simp] theorem State.loaded_frames (s : State) (ea : Word) (n : Nat) : (s.loaded ea n).frames = s.frames := by unfold State.loaded; split <;> simp
@[simp] theorem State.loaded_kr (s : State) (ea : Word) (n : Nat) : (s.loaded ea n).kr = s.kr := by unfold State.loaded; split <;> simp
@[simp] theorem State.loaded_ki (s : State) (ea : Word) (n : Nat) : (s.loaded ea n).ki = s.ki := by unfold State.loaded; split <;> simp
@[simp] theorem State.loaded_t (s : State) (ea : Word) (n : Nat) : (s.loaded ea n).t = s.t := by unfold State.loaded; split <;> simp
@[simp] theorem State.loaded_merge (s : State) (ea : Word) (n : Nat) : (s.loaded ea n).merge = s.merge := by unfold State.loaded; split <;> simp
@[simp] theorem State.loaded_aPipe (s : State) (ea : Word) (n : Nat) : (s.loaded ea n).aPipe = s.aPipe := by unfold State.loaded; split <;> simp
@[simp] theorem State.loaded_mPipe (s : State) (ea : Word) (n : Nat) : (s.loaded ea n).mPipe = s.mPipe := by unfold State.loaded; split <;> simp
@[simp] theorem State.loaded_gPipe (s : State) (ea : Word) (n : Nat) : (s.loaded ea n).gPipe = s.gPipe := by unfold State.loaded; split <;> simp
@[simp] theorem State.loaded_lPipe (s : State) (ea : Word) (n : Nat) : (s.loaded ea n).lPipe = s.lPipe := by unfold State.loaded; split <;> simp
@[simp] theorem State.loaded_fpPending (s : State) (ea : Word) (n : Nat) : (s.loaded ea n).fpPending = s.fpPending := by unfold State.loaded; split <;> simp
@[simp] theorem State.loaded_mem (s : State) (ea : Word) (n : Nat) : (s.loaded ea n).mem = s.mem := by unfold State.loaded; split <;> simp
@[simp] theorem State.loaded_undef (s : State) (ea : Word) (n : Nat) : (s.loaded ea n).undef = s.undef := by unfold State.loaded; split <;> simp
@[simp] theorem State.loaded_stored (s : State) (ea : Word) (n : Nat) : (s.loaded ea n).stored = s.stored := by unfold State.loaded; split <;> simp
@[simp] theorem State.loaded_holes (s : State) (ea : Word) (n : Nat) : (s.loaded ea n).holes = s.holes := by unfold State.loaded; split <;> simp
@[simp] theorem State.loaded_haltPc (s : State) (ea : Word) (n : Nat) : (s.loaded ea n).haltPc = s.haltPc := by unfold State.loaded; split <;> simp

/-! ## storeBits -/

@[simp] theorem State.storeBits_r (s : State) (ea : Word) (n : Nat) (v : BitVec 128) : (s.storeBits ea n v).r = s.r := rfl
@[simp] theorem State.storeBits_f (s : State) (ea : Word) (n : Nat) (v : BitVec 128) : (s.storeBits ea n v).f = s.f := rfl
@[simp] theorem State.storeBits_pc (s : State) (ea : Word) (n : Nat) (v : BitVec 128) : (s.storeBits ea n v).pc = s.pc := rfl
@[simp] theorem State.storeBits_delay (s : State) (ea : Word) (n : Nat) (v : BitVec 128) : (s.storeBits ea n v).delay = s.delay := rfl
@[simp] theorem State.storeBits_delayMode (s : State) (ea : Word) (n : Nat) (v : BitVec 128) : (s.storeBits ea n v).delayMode = s.delayMode := rfl
@[simp] theorem State.storeBits_skipCore (s : State) (ea : Word) (n : Nat) (v : BitVec 128) : (s.storeBits ea n v).skipCore = s.skipCore := rfl
@[simp] theorem State.storeBits_mode (s : State) (ea : Word) (n : Nat) (v : BitVec 128) : (s.storeBits ea n v).mode = s.mode := rfl
@[simp] theorem State.storeBits_armed (s : State) (ea : Word) (n : Nat) (v : BitVec 128) : (s.storeBits ea n v).armed = s.armed := rfl
@[simp] theorem State.storeBits_psr (s : State) (ea : Word) (n : Nat) (v : BitVec 128) : (s.storeBits ea n v).psr = s.psr := rfl
@[simp] theorem State.storeBits_epsr (s : State) (ea : Word) (n : Nat) (v : BitVec 128) : (s.storeBits ea n v).epsr = s.epsr := rfl
@[simp] theorem State.storeBits_dirbase (s : State) (ea : Word) (n : Nat) (v : BitVec 128) : (s.storeBits ea n v).dirbase = s.dirbase := rfl
@[simp] theorem State.storeBits_db (s : State) (ea : Word) (n : Nat) (v : BitVec 128) : (s.storeBits ea n v).db = s.db := rfl
@[simp] theorem State.storeBits_fsr (s : State) (ea : Word) (n : Nat) (v : BitVec 128) : (s.storeBits ea n v).fsr = s.fsr := rfl
@[simp] theorem State.storeBits_firLatched (s : State) (ea : Word) (n : Nat) (v : BitVec 128) : (s.storeBits ea n v).firLatched = s.firLatched := rfl
@[simp] theorem State.storeBits_slotFirs (s : State) (ea : Word) (n : Nat) (v : BitVec 128) : (s.storeBits ea n v).slotFirs = s.slotFirs := rfl
@[simp] theorem State.storeBits_frames (s : State) (ea : Word) (n : Nat) (v : BitVec 128) : (s.storeBits ea n v).frames = s.frames := rfl
@[simp] theorem State.storeBits_kr (s : State) (ea : Word) (n : Nat) (v : BitVec 128) : (s.storeBits ea n v).kr = s.kr := rfl
@[simp] theorem State.storeBits_ki (s : State) (ea : Word) (n : Nat) (v : BitVec 128) : (s.storeBits ea n v).ki = s.ki := rfl
@[simp] theorem State.storeBits_t (s : State) (ea : Word) (n : Nat) (v : BitVec 128) : (s.storeBits ea n v).t = s.t := rfl
@[simp] theorem State.storeBits_merge (s : State) (ea : Word) (n : Nat) (v : BitVec 128) : (s.storeBits ea n v).merge = s.merge := rfl
@[simp] theorem State.storeBits_aPipe (s : State) (ea : Word) (n : Nat) (v : BitVec 128) : (s.storeBits ea n v).aPipe = s.aPipe := rfl
@[simp] theorem State.storeBits_mPipe (s : State) (ea : Word) (n : Nat) (v : BitVec 128) : (s.storeBits ea n v).mPipe = s.mPipe := rfl
@[simp] theorem State.storeBits_gPipe (s : State) (ea : Word) (n : Nat) (v : BitVec 128) : (s.storeBits ea n v).gPipe = s.gPipe := rfl
@[simp] theorem State.storeBits_lPipe (s : State) (ea : Word) (n : Nat) (v : BitVec 128) : (s.storeBits ea n v).lPipe = s.lPipe := rfl
@[simp] theorem State.storeBits_fpPending (s : State) (ea : Word) (n : Nat) (v : BitVec 128) : (s.storeBits ea n v).fpPending = s.fpPending := rfl
@[simp] theorem State.storeBits_busLock (s : State) (ea : Word) (n : Nat) (v : BitVec 128) : (s.storeBits ea n v).busLock = s.busLock := rfl
@[simp] theorem State.storeBits_holes (s : State) (ea : Word) (n : Nat) (v : BitVec 128) : (s.storeBits ea n v).holes = s.holes := rfl
@[simp] theorem State.storeBits_haltPc (s : State) (ea : Word) (n : Nat) (v : BitVec 128) : (s.storeBits ea n v).haltPc = s.haltPc := rfl
@[simp] theorem State.storeBits_free (s : State) (ea : Word) (n : Nat) (v : BitVec 128) : (s.storeBits ea n v).free = s.free := rfl

/-! ## increment -/

@[simp] theorem State.increment_f (s : State) (auto : Bool) (base : Reg) (ea : Word) : (s.increment auto base ea).f = s.f := by cases auto <;> simp [State.increment]
@[simp] theorem State.increment_pc (s : State) (auto : Bool) (base : Reg) (ea : Word) : (s.increment auto base ea).pc = s.pc := by cases auto <;> simp [State.increment]
@[simp] theorem State.increment_delay (s : State) (auto : Bool) (base : Reg) (ea : Word) : (s.increment auto base ea).delay = s.delay := by cases auto <;> simp [State.increment]
@[simp] theorem State.increment_delayMode (s : State) (auto : Bool) (base : Reg) (ea : Word) : (s.increment auto base ea).delayMode = s.delayMode := by cases auto <;> simp [State.increment]
@[simp] theorem State.increment_skipCore (s : State) (auto : Bool) (base : Reg) (ea : Word) : (s.increment auto base ea).skipCore = s.skipCore := by cases auto <;> simp [State.increment]
@[simp] theorem State.increment_mode (s : State) (auto : Bool) (base : Reg) (ea : Word) : (s.increment auto base ea).mode = s.mode := by cases auto <;> simp [State.increment]
@[simp] theorem State.increment_armed (s : State) (auto : Bool) (base : Reg) (ea : Word) : (s.increment auto base ea).armed = s.armed := by cases auto <;> simp [State.increment]
@[simp] theorem State.increment_psr (s : State) (auto : Bool) (base : Reg) (ea : Word) : (s.increment auto base ea).psr = s.psr := by cases auto <;> simp [State.increment]
@[simp] theorem State.increment_epsr (s : State) (auto : Bool) (base : Reg) (ea : Word) : (s.increment auto base ea).epsr = s.epsr := by cases auto <;> simp [State.increment]
@[simp] theorem State.increment_dirbase (s : State) (auto : Bool) (base : Reg) (ea : Word) : (s.increment auto base ea).dirbase = s.dirbase := by cases auto <;> simp [State.increment]
@[simp] theorem State.increment_db (s : State) (auto : Bool) (base : Reg) (ea : Word) : (s.increment auto base ea).db = s.db := by cases auto <;> simp [State.increment]
@[simp] theorem State.increment_fsr (s : State) (auto : Bool) (base : Reg) (ea : Word) : (s.increment auto base ea).fsr = s.fsr := by cases auto <;> simp [State.increment]
@[simp] theorem State.increment_firLatched (s : State) (auto : Bool) (base : Reg) (ea : Word) : (s.increment auto base ea).firLatched = s.firLatched := by cases auto <;> simp [State.increment]
@[simp] theorem State.increment_slotFirs (s : State) (auto : Bool) (base : Reg) (ea : Word) : (s.increment auto base ea).slotFirs = s.slotFirs := by cases auto <;> simp [State.increment]
@[simp] theorem State.increment_frames (s : State) (auto : Bool) (base : Reg) (ea : Word) : (s.increment auto base ea).frames = s.frames := by cases auto <;> simp [State.increment]
@[simp] theorem State.increment_kr (s : State) (auto : Bool) (base : Reg) (ea : Word) : (s.increment auto base ea).kr = s.kr := by cases auto <;> simp [State.increment]
@[simp] theorem State.increment_ki (s : State) (auto : Bool) (base : Reg) (ea : Word) : (s.increment auto base ea).ki = s.ki := by cases auto <;> simp [State.increment]
@[simp] theorem State.increment_t (s : State) (auto : Bool) (base : Reg) (ea : Word) : (s.increment auto base ea).t = s.t := by cases auto <;> simp [State.increment]
@[simp] theorem State.increment_merge (s : State) (auto : Bool) (base : Reg) (ea : Word) : (s.increment auto base ea).merge = s.merge := by cases auto <;> simp [State.increment]
@[simp] theorem State.increment_aPipe (s : State) (auto : Bool) (base : Reg) (ea : Word) : (s.increment auto base ea).aPipe = s.aPipe := by cases auto <;> simp [State.increment]
@[simp] theorem State.increment_mPipe (s : State) (auto : Bool) (base : Reg) (ea : Word) : (s.increment auto base ea).mPipe = s.mPipe := by cases auto <;> simp [State.increment]
@[simp] theorem State.increment_gPipe (s : State) (auto : Bool) (base : Reg) (ea : Word) : (s.increment auto base ea).gPipe = s.gPipe := by cases auto <;> simp [State.increment]
@[simp] theorem State.increment_lPipe (s : State) (auto : Bool) (base : Reg) (ea : Word) : (s.increment auto base ea).lPipe = s.lPipe := by cases auto <;> simp [State.increment]
@[simp] theorem State.increment_fpPending (s : State) (auto : Bool) (base : Reg) (ea : Word) : (s.increment auto base ea).fpPending = s.fpPending := by cases auto <;> simp [State.increment]
@[simp] theorem State.increment_busLock (s : State) (auto : Bool) (base : Reg) (ea : Word) : (s.increment auto base ea).busLock = s.busLock := by cases auto <;> simp [State.increment]
@[simp] theorem State.increment_mem (s : State) (auto : Bool) (base : Reg) (ea : Word) : (s.increment auto base ea).mem = s.mem := by cases auto <;> simp [State.increment]
@[simp] theorem State.increment_undef (s : State) (auto : Bool) (base : Reg) (ea : Word) : (s.increment auto base ea).undef = s.undef := by cases auto <;> simp [State.increment]
@[simp] theorem State.increment_stored (s : State) (auto : Bool) (base : Reg) (ea : Word) : (s.increment auto base ea).stored = s.stored := by cases auto <;> simp [State.increment]
@[simp] theorem State.increment_holes (s : State) (auto : Bool) (base : Reg) (ea : Word) : (s.increment auto base ea).holes = s.holes := by cases auto <;> simp [State.increment]
@[simp] theorem State.increment_haltPc (s : State) (auto : Bool) (base : Reg) (ea : Word) : (s.increment auto base ea).haltPc = s.haltPc := by cases auto <;> simp [State.increment]
@[simp] theorem State.increment_free (s : State) (auto : Bool) (base : Reg) (ea : Word) : (s.increment auto base ea).free = s.free := by cases auto <;> simp [State.increment]

/-! ## setMerge -/

@[simp] theorem State.setMerge_r (s : State) (v : DWord) : (s.setMerge v).r = s.r := rfl
@[simp] theorem State.setMerge_f (s : State) (v : DWord) : (s.setMerge v).f = s.f := rfl
@[simp] theorem State.setMerge_pc (s : State) (v : DWord) : (s.setMerge v).pc = s.pc := rfl
@[simp] theorem State.setMerge_delay (s : State) (v : DWord) : (s.setMerge v).delay = s.delay := rfl
@[simp] theorem State.setMerge_delayMode (s : State) (v : DWord) : (s.setMerge v).delayMode = s.delayMode := rfl
@[simp] theorem State.setMerge_skipCore (s : State) (v : DWord) : (s.setMerge v).skipCore = s.skipCore := rfl
@[simp] theorem State.setMerge_mode (s : State) (v : DWord) : (s.setMerge v).mode = s.mode := rfl
@[simp] theorem State.setMerge_armed (s : State) (v : DWord) : (s.setMerge v).armed = s.armed := rfl
@[simp] theorem State.setMerge_psr (s : State) (v : DWord) : (s.setMerge v).psr = s.psr := rfl
@[simp] theorem State.setMerge_epsr (s : State) (v : DWord) : (s.setMerge v).epsr = s.epsr := rfl
@[simp] theorem State.setMerge_dirbase (s : State) (v : DWord) : (s.setMerge v).dirbase = s.dirbase := rfl
@[simp] theorem State.setMerge_db (s : State) (v : DWord) : (s.setMerge v).db = s.db := rfl
@[simp] theorem State.setMerge_fsr (s : State) (v : DWord) : (s.setMerge v).fsr = s.fsr := rfl
@[simp] theorem State.setMerge_firLatched (s : State) (v : DWord) : (s.setMerge v).firLatched = s.firLatched := rfl
@[simp] theorem State.setMerge_slotFirs (s : State) (v : DWord) : (s.setMerge v).slotFirs = s.slotFirs := rfl
@[simp] theorem State.setMerge_frames (s : State) (v : DWord) : (s.setMerge v).frames = s.frames := rfl
@[simp] theorem State.setMerge_kr (s : State) (v : DWord) : (s.setMerge v).kr = s.kr := rfl
@[simp] theorem State.setMerge_ki (s : State) (v : DWord) : (s.setMerge v).ki = s.ki := rfl
@[simp] theorem State.setMerge_t (s : State) (v : DWord) : (s.setMerge v).t = s.t := rfl
@[simp] theorem State.setMerge_aPipe (s : State) (v : DWord) : (s.setMerge v).aPipe = s.aPipe := rfl
@[simp] theorem State.setMerge_mPipe (s : State) (v : DWord) : (s.setMerge v).mPipe = s.mPipe := rfl
@[simp] theorem State.setMerge_gPipe (s : State) (v : DWord) : (s.setMerge v).gPipe = s.gPipe := rfl
@[simp] theorem State.setMerge_lPipe (s : State) (v : DWord) : (s.setMerge v).lPipe = s.lPipe := rfl
@[simp] theorem State.setMerge_fpPending (s : State) (v : DWord) : (s.setMerge v).fpPending = s.fpPending := rfl
@[simp] theorem State.setMerge_busLock (s : State) (v : DWord) : (s.setMerge v).busLock = s.busLock := rfl
@[simp] theorem State.setMerge_mem (s : State) (v : DWord) : (s.setMerge v).mem = s.mem := rfl
@[simp] theorem State.setMerge_undef (s : State) (v : DWord) : (s.setMerge v).undef = s.undef := rfl
@[simp] theorem State.setMerge_stored (s : State) (v : DWord) : (s.setMerge v).stored = s.stored := rfl
@[simp] theorem State.setMerge_holes (s : State) (v : DWord) : (s.setMerge v).holes = s.holes := rfl
@[simp] theorem State.setMerge_haltPc (s : State) (v : DWord) : (s.setMerge v).haltPc = s.haltPc := rfl
@[simp] theorem State.setMerge_free (s : State) (v : DWord) : (s.setMerge v).free = s.free := rfl

/-! ## loadT -/

@[simp] theorem State.loadT_r (s : State) (load : Bool) (m : Entry) (p : Prec) : (s.loadT load m p).r = s.r := by
  unfold State.loadT
  repeat' split
  all_goals rfl
@[simp] theorem State.loadT_f (s : State) (load : Bool) (m : Entry) (p : Prec) : (s.loadT load m p).f = s.f := by
  unfold State.loadT
  repeat' split
  all_goals rfl
@[simp] theorem State.loadT_pc (s : State) (load : Bool) (m : Entry) (p : Prec) : (s.loadT load m p).pc = s.pc := by
  unfold State.loadT
  repeat' split
  all_goals rfl
@[simp] theorem State.loadT_delay (s : State) (load : Bool) (m : Entry) (p : Prec) : (s.loadT load m p).delay = s.delay := by
  unfold State.loadT
  repeat' split
  all_goals rfl
@[simp] theorem State.loadT_delayMode (s : State) (load : Bool) (m : Entry) (p : Prec) : (s.loadT load m p).delayMode = s.delayMode := by
  unfold State.loadT
  repeat' split
  all_goals rfl
@[simp] theorem State.loadT_skipCore (s : State) (load : Bool) (m : Entry) (p : Prec) : (s.loadT load m p).skipCore = s.skipCore := by
  unfold State.loadT
  repeat' split
  all_goals rfl
@[simp] theorem State.loadT_mode (s : State) (load : Bool) (m : Entry) (p : Prec) : (s.loadT load m p).mode = s.mode := by
  unfold State.loadT
  repeat' split
  all_goals rfl
@[simp] theorem State.loadT_armed (s : State) (load : Bool) (m : Entry) (p : Prec) : (s.loadT load m p).armed = s.armed := by
  unfold State.loadT
  repeat' split
  all_goals rfl
@[simp] theorem State.loadT_psr (s : State) (load : Bool) (m : Entry) (p : Prec) : (s.loadT load m p).psr = s.psr := by
  unfold State.loadT
  repeat' split
  all_goals rfl
@[simp] theorem State.loadT_epsr (s : State) (load : Bool) (m : Entry) (p : Prec) : (s.loadT load m p).epsr = s.epsr := by
  unfold State.loadT
  repeat' split
  all_goals rfl
@[simp] theorem State.loadT_dirbase (s : State) (load : Bool) (m : Entry) (p : Prec) : (s.loadT load m p).dirbase = s.dirbase := by
  unfold State.loadT
  repeat' split
  all_goals rfl
@[simp] theorem State.loadT_db (s : State) (load : Bool) (m : Entry) (p : Prec) : (s.loadT load m p).db = s.db := by
  unfold State.loadT
  repeat' split
  all_goals rfl
@[simp] theorem State.loadT_fsr (s : State) (load : Bool) (m : Entry) (p : Prec) : (s.loadT load m p).fsr = s.fsr := by
  unfold State.loadT
  repeat' split
  all_goals rfl
@[simp] theorem State.loadT_firLatched (s : State) (load : Bool) (m : Entry) (p : Prec) : (s.loadT load m p).firLatched = s.firLatched := by
  unfold State.loadT
  repeat' split
  all_goals rfl
@[simp] theorem State.loadT_slotFirs (s : State) (load : Bool) (m : Entry) (p : Prec) : (s.loadT load m p).slotFirs = s.slotFirs := by
  unfold State.loadT
  repeat' split
  all_goals rfl
@[simp] theorem State.loadT_frames (s : State) (load : Bool) (m : Entry) (p : Prec) : (s.loadT load m p).frames = s.frames := by
  unfold State.loadT
  repeat' split
  all_goals rfl
@[simp] theorem State.loadT_kr (s : State) (load : Bool) (m : Entry) (p : Prec) : (s.loadT load m p).kr = s.kr := by
  unfold State.loadT
  repeat' split
  all_goals rfl
@[simp] theorem State.loadT_ki (s : State) (load : Bool) (m : Entry) (p : Prec) : (s.loadT load m p).ki = s.ki := by
  unfold State.loadT
  repeat' split
  all_goals rfl
@[simp] theorem State.loadT_merge (s : State) (load : Bool) (m : Entry) (p : Prec) : (s.loadT load m p).merge = s.merge := by
  unfold State.loadT
  repeat' split
  all_goals rfl
@[simp] theorem State.loadT_aPipe (s : State) (load : Bool) (m : Entry) (p : Prec) : (s.loadT load m p).aPipe = s.aPipe := by
  unfold State.loadT
  repeat' split
  all_goals rfl
@[simp] theorem State.loadT_mPipe (s : State) (load : Bool) (m : Entry) (p : Prec) : (s.loadT load m p).mPipe = s.mPipe := by
  unfold State.loadT
  repeat' split
  all_goals rfl
@[simp] theorem State.loadT_gPipe (s : State) (load : Bool) (m : Entry) (p : Prec) : (s.loadT load m p).gPipe = s.gPipe := by
  unfold State.loadT
  repeat' split
  all_goals rfl
@[simp] theorem State.loadT_lPipe (s : State) (load : Bool) (m : Entry) (p : Prec) : (s.loadT load m p).lPipe = s.lPipe := by
  unfold State.loadT
  repeat' split
  all_goals rfl
@[simp] theorem State.loadT_fpPending (s : State) (load : Bool) (m : Entry) (p : Prec) : (s.loadT load m p).fpPending = s.fpPending := by
  unfold State.loadT
  repeat' split
  all_goals rfl
@[simp] theorem State.loadT_busLock (s : State) (load : Bool) (m : Entry) (p : Prec) : (s.loadT load m p).busLock = s.busLock := by
  unfold State.loadT
  repeat' split
  all_goals rfl
@[simp] theorem State.loadT_mem (s : State) (load : Bool) (m : Entry) (p : Prec) : (s.loadT load m p).mem = s.mem := by
  unfold State.loadT
  repeat' split
  all_goals rfl
@[simp] theorem State.loadT_undef (s : State) (load : Bool) (m : Entry) (p : Prec) : (s.loadT load m p).undef = s.undef := by
  unfold State.loadT
  repeat' split
  all_goals rfl
@[simp] theorem State.loadT_stored (s : State) (load : Bool) (m : Entry) (p : Prec) : (s.loadT load m p).stored = s.stored := by
  unfold State.loadT
  repeat' split
  all_goals rfl
@[simp] theorem State.loadT_holes (s : State) (load : Bool) (m : Entry) (p : Prec) : (s.loadT load m p).holes = s.holes := by
  unfold State.loadT
  repeat' split
  all_goals rfl
@[simp] theorem State.loadT_haltPc (s : State) (load : Bool) (m : Entry) (p : Prec) : (s.loadT load m p).haltPc = s.haltPc := by
  unfold State.loadT
  repeat' split
  all_goals rfl

/-! ## loadK -/

@[simp] theorem State.loadK_r (s : State) (k : KLoad) (v : DWord) (p : Prec) : (s.loadK k v p).r = s.r := by cases k <;> rfl
@[simp] theorem State.loadK_f (s : State) (k : KLoad) (v : DWord) (p : Prec) : (s.loadK k v p).f = s.f := by cases k <;> rfl
@[simp] theorem State.loadK_pc (s : State) (k : KLoad) (v : DWord) (p : Prec) : (s.loadK k v p).pc = s.pc := by cases k <;> rfl
@[simp] theorem State.loadK_delay (s : State) (k : KLoad) (v : DWord) (p : Prec) : (s.loadK k v p).delay = s.delay := by cases k <;> rfl
@[simp] theorem State.loadK_delayMode (s : State) (k : KLoad) (v : DWord) (p : Prec) : (s.loadK k v p).delayMode = s.delayMode := by cases k <;> rfl
@[simp] theorem State.loadK_skipCore (s : State) (k : KLoad) (v : DWord) (p : Prec) : (s.loadK k v p).skipCore = s.skipCore := by cases k <;> rfl
@[simp] theorem State.loadK_mode (s : State) (k : KLoad) (v : DWord) (p : Prec) : (s.loadK k v p).mode = s.mode := by cases k <;> rfl
@[simp] theorem State.loadK_armed (s : State) (k : KLoad) (v : DWord) (p : Prec) : (s.loadK k v p).armed = s.armed := by cases k <;> rfl
@[simp] theorem State.loadK_psr (s : State) (k : KLoad) (v : DWord) (p : Prec) : (s.loadK k v p).psr = s.psr := by cases k <;> rfl
@[simp] theorem State.loadK_epsr (s : State) (k : KLoad) (v : DWord) (p : Prec) : (s.loadK k v p).epsr = s.epsr := by cases k <;> rfl
@[simp] theorem State.loadK_dirbase (s : State) (k : KLoad) (v : DWord) (p : Prec) : (s.loadK k v p).dirbase = s.dirbase := by cases k <;> rfl
@[simp] theorem State.loadK_db (s : State) (k : KLoad) (v : DWord) (p : Prec) : (s.loadK k v p).db = s.db := by cases k <;> rfl
@[simp] theorem State.loadK_fsr (s : State) (k : KLoad) (v : DWord) (p : Prec) : (s.loadK k v p).fsr = s.fsr := by cases k <;> rfl
@[simp] theorem State.loadK_firLatched (s : State) (k : KLoad) (v : DWord) (p : Prec) : (s.loadK k v p).firLatched = s.firLatched := by cases k <;> rfl
@[simp] theorem State.loadK_slotFirs (s : State) (k : KLoad) (v : DWord) (p : Prec) : (s.loadK k v p).slotFirs = s.slotFirs := by cases k <;> rfl
@[simp] theorem State.loadK_frames (s : State) (k : KLoad) (v : DWord) (p : Prec) : (s.loadK k v p).frames = s.frames := by cases k <;> rfl
@[simp] theorem State.loadK_t (s : State) (k : KLoad) (v : DWord) (p : Prec) : (s.loadK k v p).t = s.t := by cases k <;> rfl
@[simp] theorem State.loadK_merge (s : State) (k : KLoad) (v : DWord) (p : Prec) : (s.loadK k v p).merge = s.merge := by cases k <;> rfl
@[simp] theorem State.loadK_aPipe (s : State) (k : KLoad) (v : DWord) (p : Prec) : (s.loadK k v p).aPipe = s.aPipe := by cases k <;> rfl
@[simp] theorem State.loadK_mPipe (s : State) (k : KLoad) (v : DWord) (p : Prec) : (s.loadK k v p).mPipe = s.mPipe := by cases k <;> rfl
@[simp] theorem State.loadK_gPipe (s : State) (k : KLoad) (v : DWord) (p : Prec) : (s.loadK k v p).gPipe = s.gPipe := by cases k <;> rfl
@[simp] theorem State.loadK_lPipe (s : State) (k : KLoad) (v : DWord) (p : Prec) : (s.loadK k v p).lPipe = s.lPipe := by cases k <;> rfl
@[simp] theorem State.loadK_fpPending (s : State) (k : KLoad) (v : DWord) (p : Prec) : (s.loadK k v p).fpPending = s.fpPending := by cases k <;> rfl
@[simp] theorem State.loadK_busLock (s : State) (k : KLoad) (v : DWord) (p : Prec) : (s.loadK k v p).busLock = s.busLock := by cases k <;> rfl
@[simp] theorem State.loadK_mem (s : State) (k : KLoad) (v : DWord) (p : Prec) : (s.loadK k v p).mem = s.mem := by cases k <;> rfl
@[simp] theorem State.loadK_undef (s : State) (k : KLoad) (v : DWord) (p : Prec) : (s.loadK k v p).undef = s.undef := by cases k <;> rfl
@[simp] theorem State.loadK_stored (s : State) (k : KLoad) (v : DWord) (p : Prec) : (s.loadK k v p).stored = s.stored := by cases k <;> rfl
@[simp] theorem State.loadK_holes (s : State) (k : KLoad) (v : DWord) (p : Prec) : (s.loadK k v p).holes = s.holes := by cases k <;> rfl
@[simp] theorem State.loadK_haltPc (s : State) (k : KLoad) (v : DWord) (p : Prec) : (s.loadK k v p).haltPc = s.haltPc := by cases k <;> rfl
@[simp] theorem State.loadK_free (s : State) (k : KLoad) (v : DWord) (p : Prec) : (s.loadK k v p).free = s.free := by cases k <;> rfl

/-! ## afterReadC -/

@[simp] theorem State.afterReadC_r (s : State) (c : CReg) : (s.afterReadC c).r = s.r := by cases c <;> rfl
@[simp] theorem State.afterReadC_f (s : State) (c : CReg) : (s.afterReadC c).f = s.f := by cases c <;> rfl
@[simp] theorem State.afterReadC_pc (s : State) (c : CReg) : (s.afterReadC c).pc = s.pc := by cases c <;> rfl
@[simp] theorem State.afterReadC_delay (s : State) (c : CReg) : (s.afterReadC c).delay = s.delay := by cases c <;> rfl
@[simp] theorem State.afterReadC_delayMode (s : State) (c : CReg) : (s.afterReadC c).delayMode = s.delayMode := by cases c <;> rfl
@[simp] theorem State.afterReadC_skipCore (s : State) (c : CReg) : (s.afterReadC c).skipCore = s.skipCore := by cases c <;> rfl
@[simp] theorem State.afterReadC_mode (s : State) (c : CReg) : (s.afterReadC c).mode = s.mode := by cases c <;> rfl
@[simp] theorem State.afterReadC_armed (s : State) (c : CReg) : (s.afterReadC c).armed = s.armed := by cases c <;> rfl
@[simp] theorem State.afterReadC_psr (s : State) (c : CReg) : (s.afterReadC c).psr = s.psr := by cases c <;> rfl
@[simp] theorem State.afterReadC_epsr (s : State) (c : CReg) : (s.afterReadC c).epsr = s.epsr := by cases c <;> rfl
@[simp] theorem State.afterReadC_dirbase (s : State) (c : CReg) : (s.afterReadC c).dirbase = s.dirbase := by cases c <;> rfl
@[simp] theorem State.afterReadC_db (s : State) (c : CReg) : (s.afterReadC c).db = s.db := by cases c <;> rfl
@[simp] theorem State.afterReadC_fsr (s : State) (c : CReg) : (s.afterReadC c).fsr = s.fsr := by cases c <;> rfl
@[simp] theorem State.afterReadC_slotFirs (s : State) (c : CReg) : (s.afterReadC c).slotFirs = s.slotFirs := by cases c <;> rfl
@[simp] theorem State.afterReadC_frames (s : State) (c : CReg) : (s.afterReadC c).frames = s.frames := by cases c <;> rfl
@[simp] theorem State.afterReadC_kr (s : State) (c : CReg) : (s.afterReadC c).kr = s.kr := by cases c <;> rfl
@[simp] theorem State.afterReadC_ki (s : State) (c : CReg) : (s.afterReadC c).ki = s.ki := by cases c <;> rfl
@[simp] theorem State.afterReadC_t (s : State) (c : CReg) : (s.afterReadC c).t = s.t := by cases c <;> rfl
@[simp] theorem State.afterReadC_merge (s : State) (c : CReg) : (s.afterReadC c).merge = s.merge := by cases c <;> rfl
@[simp] theorem State.afterReadC_aPipe (s : State) (c : CReg) : (s.afterReadC c).aPipe = s.aPipe := by cases c <;> rfl
@[simp] theorem State.afterReadC_mPipe (s : State) (c : CReg) : (s.afterReadC c).mPipe = s.mPipe := by cases c <;> rfl
@[simp] theorem State.afterReadC_gPipe (s : State) (c : CReg) : (s.afterReadC c).gPipe = s.gPipe := by cases c <;> rfl
@[simp] theorem State.afterReadC_lPipe (s : State) (c : CReg) : (s.afterReadC c).lPipe = s.lPipe := by cases c <;> rfl
@[simp] theorem State.afterReadC_fpPending (s : State) (c : CReg) : (s.afterReadC c).fpPending = s.fpPending := by cases c <;> rfl
@[simp] theorem State.afterReadC_busLock (s : State) (c : CReg) : (s.afterReadC c).busLock = s.busLock := by cases c <;> rfl
@[simp] theorem State.afterReadC_mem (s : State) (c : CReg) : (s.afterReadC c).mem = s.mem := by cases c <;> rfl
@[simp] theorem State.afterReadC_undef (s : State) (c : CReg) : (s.afterReadC c).undef = s.undef := by cases c <;> rfl
@[simp] theorem State.afterReadC_stored (s : State) (c : CReg) : (s.afterReadC c).stored = s.stored := by cases c <;> rfl
@[simp] theorem State.afterReadC_holes (s : State) (c : CReg) : (s.afterReadC c).holes = s.holes := by cases c <;> rfl
@[simp] theorem State.afterReadC_haltPc (s : State) (c : CReg) : (s.afterReadC c).haltPc = s.haltPc := by cases c <;> rfl

/-! ## What the updates write -/

@[simp] theorem State.setR_zero (s : State) (v : Word) : s.setR 0 v = s := rfl
@[simp] theorem State.setFS_zero (s : State) (v : Word) : s.setFS 0 v = s := rfl
@[simp] theorem State.setFS_one (s : State) (v : Word) : s.setFS 1 v = s := rfl
@[simp] theorem State.tick_free (s : State) : s.tick.free = s.free + 1 := rfl
@[simp] theorem State.setMerge_merge (s : State) (v : DWord) : (s.setMerge v).merge = v := rfl
@[simp] theorem State.R_zero (s : State) : s.R 0 = 0 := rfl
@[simp] theorem State.FS_zero (s : State) : s.FS 0 = 0 := rfl
@[simp] theorem State.FS_one (s : State) : s.FS 1 = 0 := rfl
@[simp] theorem State.storeBits_mem (s : State) (ea : Word) (n : Nat) (v : BitVec 128) :
    (s.storeBits ea n v).mem = Memory.write s.mem ea.toNat (lowBytes v n) := rfl

/-- A register reads as what was written to it last; r0 stays zero (R21). -/
theorem State.R_setR (s : State) (i j : Reg) (v : Word) :
    (s.setR i v).R j = if j = 0 then 0 else if j = i then v else s.R j := by
  unfold State.setR State.R
  by_cases hj : j = 0#5
  · simp [hj]
  by_cases hi : i = 0#5
  · simp [hi, hj]
  by_cases h : j = i
  · subst h; simp [hj]
  · have : i.toNat ≠ j.toNat := fun e => h (BitVec.eq_of_toNat_eq e.symm)
    simp [hi, hj, h, this]

/-- The same for a floating-point register (R31). -/
theorem State.FS_setFS (s : State) (i j : Reg) (v : Word) :
    (s.setFS i v).FS j = if isFZero j then 0 else if j = i then v else s.FS j := by
  unfold State.setFS State.FS
  by_cases hj : isFZero j = true
  · simp [hj]
  by_cases hi : isFZero i = true
  · have : ¬ j = i := fun h => hj (h ▸ hi)
    simp [hi, hj, this]
  by_cases h : j = i
  · subst h; simp [hj]
  · have : i.toNat ≠ j.toNat := fun e => h (BitVec.eq_of_toNat_eq e.symm)
    simp [hi, hj, h, this]

/-! ## Moving on -/

/-- Moving on changes pc, the pending transfer, the skip mark and the mode, and nothing else (R210, R382). -/
theorem State.complete_frame (s u : State) (m : ModeSel) (c : Ctl) :
    { s.complete u m c with
      pc := u.pc, delay := u.delay, delayMode := u.delayMode, skipCore := u.skipCore, mode := u.mode,
      armed := u.armed } = u := by
  unfold State.complete
  split
  · rfl
  · cases c <;> simp only
    split
    · rfl
    · split <;> rfl

@[simp] theorem State.complete_r (s u : State) (m : ModeSel) (c : Ctl) : (s.complete u m c).r = u.r := by
  have h := congrArg State.r (State.complete_frame s u m c)
  exact h
@[simp] theorem State.complete_f (s u : State) (m : ModeSel) (c : Ctl) : (s.complete u m c).f = u.f := by
  have h := congrArg State.f (State.complete_frame s u m c)
  exact h
@[simp] theorem State.complete_psr (s u : State) (m : ModeSel) (c : Ctl) : (s.complete u m c).psr = u.psr := by
  have h := congrArg State.psr (State.complete_frame s u m c)
  exact h
@[simp] theorem State.complete_epsr (s u : State) (m : ModeSel) (c : Ctl) : (s.complete u m c).epsr = u.epsr := by
  have h := congrArg State.epsr (State.complete_frame s u m c)
  exact h
@[simp] theorem State.complete_dirbase (s u : State) (m : ModeSel) (c : Ctl) : (s.complete u m c).dirbase = u.dirbase := by
  have h := congrArg State.dirbase (State.complete_frame s u m c)
  exact h
@[simp] theorem State.complete_db (s u : State) (m : ModeSel) (c : Ctl) : (s.complete u m c).db = u.db := by
  have h := congrArg State.db (State.complete_frame s u m c)
  exact h
@[simp] theorem State.complete_fsr (s u : State) (m : ModeSel) (c : Ctl) : (s.complete u m c).fsr = u.fsr := by
  have h := congrArg State.fsr (State.complete_frame s u m c)
  exact h
@[simp] theorem State.complete_firLatched (s u : State) (m : ModeSel) (c : Ctl) : (s.complete u m c).firLatched = u.firLatched := by
  have h := congrArg State.firLatched (State.complete_frame s u m c)
  exact h
@[simp] theorem State.complete_slotFirs (s u : State) (m : ModeSel) (c : Ctl) : (s.complete u m c).slotFirs = u.slotFirs := by
  have h := congrArg State.slotFirs (State.complete_frame s u m c)
  exact h
@[simp] theorem State.complete_frames (s u : State) (m : ModeSel) (c : Ctl) : (s.complete u m c).frames = u.frames := by
  have h := congrArg State.frames (State.complete_frame s u m c)
  exact h
@[simp] theorem State.complete_kr (s u : State) (m : ModeSel) (c : Ctl) : (s.complete u m c).kr = u.kr := by
  have h := congrArg State.kr (State.complete_frame s u m c)
  exact h
@[simp] theorem State.complete_ki (s u : State) (m : ModeSel) (c : Ctl) : (s.complete u m c).ki = u.ki := by
  have h := congrArg State.ki (State.complete_frame s u m c)
  exact h
@[simp] theorem State.complete_t (s u : State) (m : ModeSel) (c : Ctl) : (s.complete u m c).t = u.t := by
  have h := congrArg State.t (State.complete_frame s u m c)
  exact h
@[simp] theorem State.complete_merge (s u : State) (m : ModeSel) (c : Ctl) : (s.complete u m c).merge = u.merge := by
  have h := congrArg State.merge (State.complete_frame s u m c)
  exact h
@[simp] theorem State.complete_aPipe (s u : State) (m : ModeSel) (c : Ctl) : (s.complete u m c).aPipe = u.aPipe := by
  have h := congrArg State.aPipe (State.complete_frame s u m c)
  exact h
@[simp] theorem State.complete_mPipe (s u : State) (m : ModeSel) (c : Ctl) : (s.complete u m c).mPipe = u.mPipe := by
  have h := congrArg State.mPipe (State.complete_frame s u m c)
  exact h
@[simp] theorem State.complete_gPipe (s u : State) (m : ModeSel) (c : Ctl) : (s.complete u m c).gPipe = u.gPipe := by
  have h := congrArg State.gPipe (State.complete_frame s u m c)
  exact h
@[simp] theorem State.complete_lPipe (s u : State) (m : ModeSel) (c : Ctl) : (s.complete u m c).lPipe = u.lPipe := by
  have h := congrArg State.lPipe (State.complete_frame s u m c)
  exact h
@[simp] theorem State.complete_fpPending (s u : State) (m : ModeSel) (c : Ctl) : (s.complete u m c).fpPending = u.fpPending := by
  have h := congrArg State.fpPending (State.complete_frame s u m c)
  exact h
@[simp] theorem State.complete_busLock (s u : State) (m : ModeSel) (c : Ctl) : (s.complete u m c).busLock = u.busLock := by
  have h := congrArg State.busLock (State.complete_frame s u m c)
  exact h
@[simp] theorem State.complete_mem (s u : State) (m : ModeSel) (c : Ctl) : (s.complete u m c).mem = u.mem := by
  have h := congrArg State.mem (State.complete_frame s u m c)
  exact h
@[simp] theorem State.complete_undef (s u : State) (m : ModeSel) (c : Ctl) : (s.complete u m c).undef = u.undef := by
  have h := congrArg State.undef (State.complete_frame s u m c)
  exact h
@[simp] theorem State.complete_stored (s u : State) (m : ModeSel) (c : Ctl) : (s.complete u m c).stored = u.stored := by
  have h := congrArg State.stored (State.complete_frame s u m c)
  exact h
@[simp] theorem State.complete_holes (s u : State) (m : ModeSel) (c : Ctl) : (s.complete u m c).holes = u.holes := by
  have h := congrArg State.holes (State.complete_frame s u m c)
  exact h
@[simp] theorem State.complete_haltPc (s u : State) (m : ModeSel) (c : Ctl) : (s.complete u m c).haltPc = u.haltPc := by
  have h := congrArg State.haltPc (State.complete_frame s u m c)
  exact h
@[simp] theorem State.complete_free (s u : State) (m : ModeSel) (c : Ctl) : (s.complete u m c).free = u.free := by
  have h := congrArg State.free (State.complete_frame s u m c)
  exact h

end Sys2Proof.Machine
end

