-- ==== Sys2Proof/Laws/Operands.lean ====
section
/-!
SUPPORT. Operands: offsets and displacements as signed products, which registers a write leaves alone, and the bytes of
a load, a store or a fetch; what the compares share.
-/
namespace Sys2Proof.Machine

/-! ## Offsets and displacements (R10, R112, R114) -/

/-- The offset of 15 bits is 2 times its field. -/
theorem offset15_eq (o : BitVec 15) : offset15 o = BitVec.ofInt 32 (2 * o.toInt) := by
  unfold offset15
  have h : (o ++ 0#1).toInt = 2 * o.toInt := by
    rw [BitVec.toInt_eq_toNat_cond, BitVec.toInt_eq_toNat_cond, BitVec.toNat_append]
    have := o.isLt
    simp [Nat.shiftLeft_eq]
    split <;> split <;> omega
  apply BitVec.eq_of_toInt_eq
  rw [BitVec.toInt_signExtend_of_le (by omega), BitVec.toInt_ofInt, Int.bmod_def, h]
  have h1 := o.toInt_lt
  have h2 := o.le_toInt
  split <;> omega

/-- The offset of 14 bits is 4 times its field. -/
theorem offset14_eq (o : BitVec 14) : offset14 o = BitVec.ofInt 32 (4 * o.toInt) := by
  unfold offset14
  have h : (o ++ 0#2).toInt = 4 * o.toInt := by
    rw [BitVec.toInt_eq_toNat_cond, BitVec.toInt_eq_toNat_cond, BitVec.toNat_append]
    have := o.isLt
    simp [Nat.shiftLeft_eq]
    split <;> split <;> omega
  apply BitVec.eq_of_toInt_eq
  rw [BitVec.toInt_signExtend_of_le (by omega), BitVec.toInt_ofInt, Int.bmod_def, h]
  have h1 := o.toInt_lt
  have h2 := o.le_toInt
  split <;> omega

/-- The offset of 13 bits is 8 times its field. -/
theorem offset13_eq (o : BitVec 13) : offset13 o = BitVec.ofInt 32 (8 * o.toInt) := by
  unfold offset13
  have h : (o ++ 0#3).toInt = 8 * o.toInt := by
    rw [BitVec.toInt_eq_toNat_cond, BitVec.toInt_eq_toNat_cond, BitVec.toNat_append]
    have := o.isLt
    simp [Nat.shiftLeft_eq]
    split <;> split <;> omega
  apply BitVec.eq_of_toInt_eq
  rw [BitVec.toInt_signExtend_of_le (by omega), BitVec.toInt_ofInt, Int.bmod_def, h]
  have h1 := o.toInt_lt
  have h2 := o.le_toInt
  split <;> omega

/-- The displacement of 26 bits is 4 times its field. -/
theorem branchDisp26_eq (o : BitVec 26) : branchDisp26 o = BitVec.ofInt 32 (4 * o.toInt) := by
  unfold branchDisp26
  have h : (o ++ 0#2).toInt = 4 * o.toInt := by
    rw [BitVec.toInt_eq_toNat_cond, BitVec.toInt_eq_toNat_cond, BitVec.toNat_append]
    have := o.isLt
    simp [Nat.shiftLeft_eq]
    split <;> split <;> omega
  apply BitVec.eq_of_toInt_eq
  rw [BitVec.toInt_signExtend_of_le (by omega), BitVec.toInt_ofInt, Int.bmod_def, h]
  have h1 := o.toInt_lt
  have h2 := o.le_toInt
  split <;> omega

/-- The displacement of 16 bits is 4 times its field. -/
theorem branchDisp16_eq (o : BitVec 16) : branchDisp16 o = BitVec.ofInt 32 (4 * o.toInt) := by
  unfold branchDisp16
  have h : (o ++ 0#2).toInt = 4 * o.toInt := by
    rw [BitVec.toInt_eq_toNat_cond, BitVec.toInt_eq_toNat_cond, BitVec.toNat_append]
    have := o.isLt
    simp [Nat.shiftLeft_eq]
    split <;> split <;> omega
  apply BitVec.eq_of_toInt_eq
  rw [BitVec.toInt_signExtend_of_le (by omega), BitVec.toInt_ofInt, Int.bmod_def, h]
  have h1 := o.toInt_lt
  have h2 := o.le_toInt
  split <;> omega

/-- A branch target from the next address (R10). -/
theorem State.branchTarget_eq (s : State) (x : Int) : s.branchTarget x = s.pc + 4 + BitVec.ofInt 32 (4 * x) := by
  unfold State.branchTarget
  rw [BitVec.ofInt_add, BitVec.ofInt_add]
  simp

/-- The target of a 26-bit branch in single-instruction mode. -/
theorem State.brx26_eq {s : State} (h : s.mode = .single) (o : BitVec 26) : s.brx26 o = s.branchTarget o.toInt := by
  rw [State.branchTarget_eq, State.brx26, branchDisp26_eq, State.instAddr, h]

/-- The target of a 16-bit branch in single-instruction mode. -/
theorem State.brx16_eq {s : State} (h : s.mode = .single) (o : BitVec 16) : s.brx16 o = s.branchTarget o.toInt := by
  rw [State.branchTarget_eq, State.brx16, branchDisp16_eq, State.instAddr, h]

/-! ## Register numbers (R31, R33) -/

/-- f0 and f1. -/
theorem isFZero_iff (i : Reg) : isFZero i = true ↔ i = 0 ∨ i = 1 := by simp [isFZero]

/-- An even number fits a 64-bit operand. -/
theorem isPair_of {i : Reg} (h : i.toNat % 2 = 0) : isPair i = true := by revert i; decide

/-- A multiple of 4 fits a 128-bit operand. -/
theorem isQuad_of {i : Reg} (h : i.toNat % 4 = 0) : isQuad i = true := by revert i; decide

@[simp] theorem Prec.fits_s (i : Reg) : Prec.fits .s i = true := rfl

/-- The same for a precision. -/
theorem Prec.fits_d {i : Reg} (h : i.toNat % 2 = 0) : Prec.fits .d i = true := isPair_of h

/-! ## Which registers a write leaves alone -/

/-- Integer registers read alike in states with the same integer registers. -/
theorem State.R_congr {s t : State} (h : t.r = s.r) (j : Reg) : t.R j = s.R j := by
  unfold State.R
  simp only [h]

/-- The same for floating-point registers. -/
theorem State.FS_congr {s t : State} (h : t.f = s.f) (j : Reg) : t.FS j = s.FS j := by
  unfold State.FS
  simp only [h]

/-- A write to an integer register leaves the others alone. -/
theorem State.setR_R_ne (s : State) (i : Reg) (v : Word) (j : Reg) (h : j ≠ i) : (s.setR i v).R j = s.R j := by
  rw [State.R_setR, if_neg h]
  split
  · rename_i hj
    subst hj
    rfl
  · rfl

/-- A write to a floating-point register leaves the others alone. -/
theorem State.setFS_FS_ne (s : State) (i : Reg) (v : Word) (j : Reg) (h : j ≠ i) : (s.setFS i v).FS j = s.FS j := by
  rw [State.FS_setFS, if_neg h]
  split
  · rename_i hj
    unfold State.FS
    rw [if_pos hj]
  · rfl

/-- A write to a pair leaves the other registers alone. -/
theorem State.setFD_FS_ne (s : State) (i : Reg) (v : DWord) (j : Reg) (h : j ≠ i) (h2 : j ≠ i + 1) :
    (s.setFD i v).FS j = s.FS j := by
  unfold State.setFD
  rw [State.setFS_FS_ne _ _ _ _ h2, State.setFS_FS_ne _ _ _ _ h]

/-- A write at a precision leaves the registers outside its operand alone. -/
theorem State.fwrite_FS_ne (s : State) (i : Reg) (p : Prec) (v : DWord) (j : Reg) (h : j ∉ p.regs i) :
    (s.fwrite i p v).FS j = s.FS j := by
  cases p <;> simp [Prec.regs] at h
  · exact State.setFS_FS_ne _ _ _ _ h
  · exact State.setFD_FS_ne _ _ _ _ h.1 h.2

/-- A bit of a pair. -/
theorem State.FD_getLsbD (s : State) (i : Reg) (k : Nat) :
    (s.FD i).getLsbD k = if k < 32 then (s.FS i).getLsbD k else (s.FS (i + 1)).getLsbD (k - 32) := by
  unfold State.FD
  rw [BitVec.getLsbD_append]

/-- A write to a floating-point register and a note of an exception commute. -/
theorem State.fwrite_fpPending_comm (s : State) (i : Reg) (q : Prec) (v : DWord) (p : Bool) :
    { s.fwrite i q v with fpPending := p } = { s with fpPending := p }.fwrite i q v := by
  have h : ∀ (s : State) (i : Reg) (v : Word),
      { s.setFS i v with fpPending := p } = { s with fpPending := p }.setFS i v := by
    intro s i v
    unfold State.setFS
    split <;> rfl
  cases q
  · exact h _ _ _
  · show { s.setFD i v with fpPending := p } = _
    unfold State.setFD
    rw [h, h]
    rfl

/-- Whether an exception becomes pending depends on fsr and on what is pending. -/
theorem State.pends_congr {s t : State} (o : FpOut) (h1 : t.fsr = s.fsr) (h2 : t.fpPending = s.fpPending) :
    t.pends o = s.pends o := by
  unfold State.pends
  rw [h1, h2]

/-! ## The bytes of loads and stores (R70) -/

/-- A bit of the value of bytes. -/
theorem ofBytes_getLsbD (l : List Byte) (i : Nat) (hi : i < 128) :
    (ofBytes l).getLsbD i = (l.getD (i / 8) 0).getLsbD (i % 8) := by
  induction l generalizing i with
  | nil => simp [ofBytes]
  | cons a l ih =>
    simp only [ofBytes, BitVec.getLsbD_or, BitVec.getLsbD_shiftLeft, BitVec.zeroExtend, BitVec.getLsbD_setWidth]
    by_cases h : i < 8
    · have h1 : i / 8 = 0 := by omega
      have h2 : i % 8 = i := by omega
      simp [h, hi, h1, h2]
    · rw [ih (i - 8) (by omega)]
      obtain ⟨k, hk⟩ : ∃ k, i / 8 = k + 1 := ⟨i / 8 - 1, by omega⟩
      have h1 : (i - 8) / 8 = k := by omega
      have h2 : (i - 8) % 8 = i % 8 := by omega
      simp only [h, hi, hk, h1, h2, List.getD_cons_succ, BitVec.getLsbD_of_ge a i (by omega)]
      simp

/-- A bit of a load. -/
theorem State.loadBits_getLsbD (s : State) (ea : Word) (n i : Nat) (hi : i < 128) :
    (s.loadBits ea n).getLsbD i = if i / 8 < n then (s.byteAt (ea.toNat + i / 8) (i / 8)).getLsbD (i % 8) else false := by
  rw [State.loadBits, ofBytes_getLsbD _ _ hi, List.getD_eq_getElem?_getD, List.getElem?_map]
  split
  · rename_i h
    rw [List.getElem?_range h]
    rfl
  · rename_i h
    rw [List.getElem?_eq_none (by simp; omega)]
    simp

/-- A bit of four bytes together. -/
theorem State.loadWord_getLsbD (s : State) (ea : Word) (k i : Nat) (hi : i < 32) :
    (s.loadWord ea k).getLsbD i = (s.byteAt (ea.toNat + (k + i / 8)) (k + i / 8)).getLsbD (i % 8) := by
  unfold State.loadWord
  simp only [BitVec.getLsbD_append]
  rcases (show i / 8 = 0 ∨ i / 8 = 1 ∨ i / 8 = 2 ∨ i / 8 = 3 by omega) with h | h | h | h
  · have h2 : i < 8 := by omega
    have h3 : i % 8 = i := by omega
    simp [h, h2, h3]
  · have h2 : ¬i < 8 := by omega
    have h4 : i - 8 < 8 := by omega
    have h3 : i % 8 = i - 8 := by omega
    simp [h, h2, h3, h4, Nat.add_assoc]
  · have h2 : ¬i < 8 := by omega
    have h4 : ¬i - 8 < 8 := by omega
    have h5 : i - 8 - 8 < 8 := by omega
    have h3 : i % 8 = i - 8 - 8 := by omega
    simp [h, h2, h3, h4, h5, Nat.add_assoc]
  · have h2 : ¬i < 8 := by omega
    have h4 : ¬i - 8 < 8 := by omega
    have h5 : ¬i - 8 - 8 < 8 := by omega
    have h3 : i % 8 = i - 8 - 8 - 8 := by omega
    simp [h, h2, h3, h4, h5, Nat.add_assoc]

/-- Word `k` of a wide load. -/
theorem State.loadBits_word (s : State) (ea : Word) (n k : Nat) (h : k * 4 + 4 ≤ n) (hn : n ≤ 16) :
    (s.loadBits ea n).extractLsb' (32 * k) 32 = s.loadWord ea (4 * k) := by
  apply BitVec.eq_of_getLsbD_eq
  intro i hi
  rw [BitVec.getLsbD_extractLsb', State.loadWord_getLsbD _ _ _ _ hi, State.loadBits_getLsbD _ _ _ _ (by omega)]
  have h1 : (32 * k + i) / 8 = 4 * k + i / 8 := by omega
  have h2 : (32 * k + i) % 8 = i % 8 := by omega
  rw [h1, h2, if_pos (by omega)]
  simp [hi]

/-- The words that an aligned store touches are those that overlap it. -/
theorem mem_touchedWords (a n x : Nat) (hn : n = 1 ∨ n = 2 ∨ n = 4 ∨ n = 8 ∨ n = 16) (h : a % n = 0) :
    x ∈ touchedWords a n ↔ x % 4 = 0 ∧ x < a + n ∧ a < x + 4 := by
  simp only [touchedWords, List.mem_map, List.mem_range]
  constructor
  · rintro ⟨k, hk, rfl⟩
    rcases hn with rfl | rfl | rfl | rfl | rfl <;> omega
  · rintro ⟨h1, h2, h3⟩
    refine ⟨(x - a / 4 * 4) / 4, ?_, ?_⟩ <;> rcases hn with rfl | rfl | rfl | rfl | rfl <;> omega

/-- Pixels are stored without a change to anything but memory and its notes. -/
theorem storePixels_keeps (s : State) (ea : Word) (b : Nat) (v : BitVec 128) (l : List Nat) :
    ∃ m u w, storePixels s ea b v l = { s with mem := m, undef := u, stored := w } := by
  induction l generalizing s with
  | nil => exact ⟨s.mem, s.undef, s.stored, rfl⟩
  | cons i l ih =>
    obtain ⟨m, u, w, h⟩ := ih (s.storeBits (ea + BitVec.ofNat 32 (i * b)) b (v >>> (8 * b * i)))
    exact ⟨m, u, w, by rw [storePixels, h]; rfl⟩

/-- The word a refused fetch names is the word at the address (R82, R130). -/
theorem fetchBytes_word (s : State) (a : Word) :
    BitVec.ofNat 32 (ofBytes (s.fetchBytes a)).toNat = s.wordAt a := by
  have key (b0 b1 b2 b3 : Byte) : (ofBytes [b0, b1, b2, b3]).setWidth 32 = wordOfBytes b0 b1 b2 b3 := by
    have past (b : Byte) (j : Nat) (h : 8 ≤ j) : b.getLsbD j = false := BitVec.getLsbD_of_ge b j h
    apply BitVec.eq_of_getLsbD_eq
    intro i hi
    simp only [ofBytes, wordOfBytes, BitVec.getLsbD_setWidth, BitVec.getLsbD_or, BitVec.getLsbD_shiftLeft,
      BitVec.getLsbD_append, BitVec.zeroExtend, hi, decide_true, Bool.true_and]
    by_cases h1 : i < 8
    · simp [h1, show i < 128 by omega]
    have e0 := past b0 i (by omega)
    by_cases h2 : i < 16
    · simp [h1, e0, show i < 128 by omega, show i - 8 < 8 by omega, show i - 8 < 128 by omega]
    have e1 := past b1 (i - 8) (by omega)
    have n1 : ¬i - 8 < 8 := by omega
    by_cases h3 : i < 24
    · simp [h1, n1, e0, e1, show i < 128 by omega, show i - 8 < 128 by omega, show i - 8 - 8 < 8 by omega,
        show i - 8 - 8 < 128 by omega]
    have e2 := past b2 (i - 8 - 8) (by omega)
    have n2 : ¬i - 8 - 8 < 8 := by omega
    simp [h1, n1, n2, e0, e1, e2, show i < 128 by omega, show i - 8 < 128 by omega, show i - 8 - 8 < 128 by omega,
      show i - 8 - 8 - 8 < 8 by omega, show i - 8 - 8 - 8 < 128 by omega]
  refine Eq.trans (BitVec.eq_of_toNat_eq ?_) (key _ _ _ _)
  rw [BitVec.toNat_ofNat, BitVec.toNat_setWidth]
  rfl

/-- For ordered operands pfle and pfgt give the same CC: one relation is the other's negation (R299). -/
theorem fpLe_cc (p : Prec) (env : FpEnv) (a b : DWord) (ha : fpIsNaN p a = false) (hb : fpIsNaN p b = false) :
    (fpLe p env a b).cc = !(fpGt p env a b).cc := by
  have h : ∃ o, fpCompare p env a b = some o := by
    unfold fpCompare
    cases fpAligned p a b with
    | some x => exact ⟨_, rfl⟩
    | none => exact ⟨_, by rw [ha, hb]; rfl⟩
  obtain ⟨o, h⟩ := h
  simp only [fpLe, fpGt, h]

end Sys2Proof.Machine
end

