-- ==== Sys2Proof/Laws/Ops.lean ====
section
/-!
SUPPORT. What each shared operation can do, said once: the lemmas that proofs about instructions cite.
-/
namespace Sys2Proof.Machine

/-! ## The parts of an effect -/

@[simp] theorem demand_true (r : Refusal) (k : Eff) : demand true r k = k := rfl
@[simp] theorem demand_false (r : Refusal) (k : Eff) : demand false r k = .refuse r := rfl

/-- A demand that is met goes on. -/
theorem demand_of (b : Bool) (r : Refusal) (k : Eff) (h : b = true) : demand b r k = k := by rw [h]; rfl

/-- An effect behind a demand completes only if the condition holds. -/
theorem demand_ok {b : Bool} {r : Refusal} {k : Eff} {t : State} {c : Ctl} (h : demand b r k = .ok t c) :
    b = true ∧ k = .ok t c := by
  cases b
  · cases h
  · exact ⟨rfl, h⟩

/-- The same for a trap. -/
theorem demand_trap {b : Bool} {r : Refusal} {k : Eff} {t : State} {c : Cause} (h : demand b r k = .trap c t) :
    b = true ∧ k = .trap c t := by
  cases b
  · cases h
  · exact ⟨rfl, h⟩

/-- A pending result exception is not reported while FTE is clear (R406). -/
theorem State.reporting_none (s : State) (h : s.fpPending = true → fsrFte s.fsr = false) : s.reporting = false := by
  unfold State.reporting
  cases hp : s.fpPending
  · rfl
  · rw [h hp]; rfl

/-- Without a result exception to report the instruction goes on (R407). -/
theorem reportResult_none (s : State) (k : Eff) (h : s.fpPending = true → fsrFte s.fsr = false) :
    reportResult s k = k := by
  simp [reportResult, s.reporting_none h]

/-- The same where reporting is a free choice. -/
theorem mayReportResult_none (s : State) (k : State → Eff) (h : s.fpPending = true → fsrFte s.fsr = false) :
    mayReportResult s k = k s := by
  simp [mayReportResult, s.reporting_none h]

/-- With a report due and the free choice made, fld, pfld and ixfr trap (R407). -/
theorem mayReportResult_trap (s : State) (k : State → Eff) (h : s.reporting = true) (hf : Config.freeBool s.free = true) :
    mayReportResult s k = .trap .ft { s.tick with fpPending := false } := by simp [mayReportResult, h, hf]

/-- With a report due and the free choice against it, they run and the exception stays pending (R407). -/
theorem mayReportResult_run (s : State) (k : State → Eff) (h : s.reporting = true) (hf : Config.freeBool s.free = false) :
    mayReportResult s k = k s.tick := by simp [mayReportResult, h, hf]

/-- Without a source exception that FTE enables the operation goes on (R406). -/
theorem checkSource_none (se : Bool) (s : State) (k : Eff) (h : fsrFte s.fsr = true → se = false) :
    checkSource se s k = k := by
  unfold checkSource
  cases hf : fsrFte s.fsr
  · rfl
  · rw [h hf]; rfl

/-- An access that is allowed is made. -/
theorem checkData_ok (s : State) (ea : Word) (n : Nat) (k : Eff) (h : s.dataOk ea n = true) :
    checkData s ea n k = k := by
  simp [checkData, h]

/-- What an allowed access is. -/
theorem accessible_iff (s : State) (ea : Word) (n : Nat) : s.accessible ea n ↔ s.dataOk ea n = true := by
  rw [State.dataOk_iff, State.accessible]
  simp only [populated_iff]

/-- A result exception is noted in the one flag (R407). -/
theorem State.noteResult_eq (s : State) (o : FpOut) : s.noteResult o = { s with fpPending := s.pends o } := by
  unfold State.noteResult State.pends
  cases h : (fsrFte s.fsr && (o.overflow || o.underflow || o.inexact && fsrTi s.fsr))
  · simp
  · simp

/-- What an access does to the bus lock. -/
theorem State.accessed_eq (s : State) : s.accessed = s.afterAccess := by
  unfold State.accessed State.afterAccess
  cases s.dirbase.bl <;> simp

/-- What a load does beside its result. -/
theorem State.loaded_eq (s : State) (ea : Word) (n : Nat) : s.loaded ea n = s.afterLoad ea n := by
  unfold State.loaded State.afterLoad
  rw [State.accessed_eq]
  have : ((List.range n).any fun k => s.undef.contains (ea.toNat + k)) = true ↔
      ∃ k < n, ea.toNat + k ∈ s.undef := by
    simp [List.any_eq_true]
  by_cases h : ∃ k < n, ea.toNat + k ∈ s.undef
  · rw [if_pos (this.2 h), if_pos h]; rfl
  · rw [if_neg (fun x => h (this.1 x)), if_neg h]; rfl

/-- Autoincrement is the write of the base register. -/
theorem State.increment_eq (s : State) (auto : Bool) (base : Reg) (ea : Word) :
    s.increment auto base ea = s.withBase auto base ea := rfl

/-- Membership in a list that keeps what it has. -/
theorem mem_insertRising (a x : Nat) (l : List Nat) : x ∈ insertRising a l ↔ x = a ∨ x ∈ l := by
  induction l with
  | nil => simp [insertRising]
  | cons b l ih =>
    unfold insertRising
    split
    · simp
    · split
      · rename_i h; subst h; simp
      · simp only [List.mem_cons, ih]
        constructor
        · rintro (h | h | h) <;> simp [h]
        · rintro (h | h | h) <;> simp [h]

/-- Several insertions. -/
theorem mem_foldr_insertRising (x : Nat) (as l : List Nat) :
    x ∈ as.foldr insertRising l ↔ x ∈ as ∨ x ∈ l := by
  induction as with
  | nil => simp
  | cons a as ih => simp only [List.foldr_cons, mem_insertRising, ih, List.mem_cons]; exact or_assoc.symm

/-! ## One instruction -/

/-- Every instruction ends its step in the same way. -/
theorem exec_eq_retire (i : Instr) (s : State) : exec i s = retire i s (effect i) := by cases i <;> rfl

/-- A trap is taken outside a locked sequence (R405). -/
theorem State.takeTrap_of (s : State) (c : Cause) (a : Word) (knf : Bool) (h : s.dirbase.bl = false) :
    s.takeTrap c a knf = .next (s.enterTrap c a knf) := by simp [State.takeTrap, h]

/-- A trap that ends in a next state is taken outside a locked sequence. -/
theorem State.takeTrap_next {s t : State} {c : Cause} {a : Word} {knf : Bool} (h : s.takeTrap c a knf = .next t) :
    s.dirbase.bl = false ∧ t = s.enterTrap c a knf := by
  unfold State.takeTrap at h
  split at h
  · cases h
  · rename_i hb
    cases h
    exact ⟨by simpa using hb, rfl⟩

/-- What a trap return that is not refused does (R215, R415): KNF is clear, the latest context is not lost, and it does
not resume in a delay slot. -/
theorem State.returnFromTrap_ok {s u : State} {t : Word} {c : Ctl} (h : s.returnFromTrap t = .ok u c) :
    s.psr.knf = false ∧ resumesInSlot s.slotFirs s.frames t = false ∧ contextLost s.frames = false ∧
      u = { s with psr := s.psr.afterReturn, frames := s.frames.tail } ∧
      c = .delayed t (some (modeSelected s.psr.ds s.psr.dim)) := by
  unfold State.returnFromTrap at h
  obtain ⟨h1, h⟩ := demand_ok h
  obtain ⟨h2, h⟩ := demand_ok h
  obtain ⟨h3, h⟩ := demand_ok h
  cases h
  simp only [Bool.not_eq_true'] at h1 h2 h3
  exact ⟨h1, h2, h3, rfl, rfl⟩

/-- The latest trap's address is the one that its own return is judged by (R409). -/
@[simp] theorem resumesInSlot_taken (l : List Word) (fs : List TrapFrame) (a : Word) (b : Bool) :
    resumesInSlot l (.taken a b :: fs) a = b := by simp [resumesInSlot]

/-- A trap in a delay slot is noted for good (R409). -/
theorem mem_slotsAfterTrap (b : Bool) (a x : Word) (l : List Word) :
    x ∈ slotsAfterTrap b a l ↔ (b = true ∧ x = a) ∨ x ∈ l := by
  cases b
  · simp [slotsAfterTrap]
  · simp [slotsAfterTrap, List.mem_insert_iff]

@[simp] theorem contextLost_nil : contextLost [] = false := rfl
@[simp] theorem contextLost_lost (fs : List TrapFrame) : contextLost (.lost :: fs) = true := rfl
@[simp] theorem contextLost_taken (fs : List TrapFrame) (a : Word) (b : Bool) :
    contextLost (.taken a b :: fs) = false := rfl

/-- In single-instruction mode a mode change under way asks for D = 1 (R382). -/
theorem modeNext_single (armed : Bool) (d : Option Bool) (h : armed = true → d ≠ some false) :
    modeNext .single armed d = some ⟨if armed then .dual else .single, !armed && d.getD false⟩ := by
  rcases armed with _ | _ <;> rcases d with _ | _ | _ <;> first | rfl | exact absurd rfl (h rfl)

/-- An instruction whose effect completes, in single-instruction mode. -/
theorem exec_of_ok {i : Instr} {s t : State} {c : Ctl} (hm : s.mode = .single)
    (hd : s.armed = true → dbit i ≠ some false) (hc : isControl i = true → s.armed = false)
    (he : effect i s = .ok t c) : exec i s = .next (s.movedOn ((dbit i).getD false) t c) := by
  rw [exec_eq_retire, retire, hm]
  simp only [retireSingle, hm, modeNext_single _ _ hd, he]
  have : (isControl i && s.armed) = false := by
    cases h : isControl i
    · rfl
    · rw [hc h]; rfl
  rw [this]; rfl

/-- An instruction whose effect traps, in single-instruction mode. -/
theorem exec_of_trap {i : Instr} {s t : State} {c : Cause} (hm : s.mode = .single)
    (hd : s.armed = true → dbit i ≠ some false) (hc : isControl i = true → s.armed = false)
    (he : effect i s = .trap c t) : exec i s = t.takeTrap c s.pc false := by
  rw [exec_eq_retire, retire, hm]
  simp only [retireSingle, hm, modeNext_single _ _ hd, he]
  have : (isControl i && s.armed) = false := by
    cases h : isControl i
    · rfl
    · rw [hc h]; rfl
  rw [this]; rfl

/-- An instruction whose effect is refused, in single-instruction mode. -/
theorem exec_of_refuse {i : Instr} {s : State} {r : Refusal} (hm : s.mode = .single)
    (hd : s.armed = true → dbit i ≠ some false) (hc : isControl i = true → s.armed = false)
    (he : effect i s = .refuse r) : exec i s = .refused r := by
  rw [exec_eq_retire, retire, hm]
  simp only [retireSingle, hm, modeNext_single _ _ hd, he]
  have : (isControl i && s.armed) = false := by
    cases h : isControl i
    · rfl
    · rw [hc h]; rfl
  rw [this]; rfl

/-- A core instruction other than a control transfer completes. -/
theorem gives_core {i : Instr} {s t : State} (h : CoreReady s) (hd : dbit i = none) (hc : isControl i = false)
    (he : effect i s = .ok t .seq) : Gives i false s t := by
  have := exec_of_ok h (by simp [hd]) (by simp [hc]) he
  rwa [hd] at this

/-- A floating-point-format instruction completes. -/
theorem gives_fp {i : Instr} {s t : State} {d : Bool} (h : FpReady s d) (hd : dbit i = some d)
    (hc : isControl i = false) (he : effect i s = .ok t .seq) : Gives i d s t := by
  have := exec_of_ok h.1 (by rw [hd]; intro ha hf; rw [h.2.1 ha] at hf; cases hf) (by simp [hc]) he
  rwa [hd] at this

/-- A control transfer completes. -/
theorem transfers_of {i : Instr} {s t : State} {c : Ctl} {pc : Word} {delay : Option Word} (h : TransferReady s)
    (hd : dbit i = none) (he : effect i s = .ok t c) (hm : t.mode = .single) (ha : t.armed = false)
    (hdl : t.delay = none)
    (hg : (c = .seq ∧ pc = s.pc + 4 ∧ delay = none) ∨ (c = .jump pc ∧ delay = none) ∨
      (∃ a, c = .delayed a none ∧ pc = s.pc + 4 ∧ delay = some a) ∨ (c = .skip ∧ pc = s.pc + 4 + 4 ∧ delay = none)) :
    Transfers i s t pc delay := by
  obtain ⟨h1, h2, h3⟩ := h
  have := exec_of_ok h1 (by simp [hd]) (fun _ => h2) he
  rw [Transfers, this, hd]
  obtain ⟨r, f, pc', dl, dm, sk, m, ar⟩ := t
  simp only at hm ha hdl
  subst hm ha hdl
  rcases hg with ⟨rfl, rfl, rfl⟩ | ⟨rfl, rfl⟩ | ⟨a, rfl, rfl, rfl⟩ | ⟨rfl, rfl, rfl⟩ <;>
    simp [State.movedOn, State.complete, h1, h2, h3, Mode.width]

/-- How a step of one instruction ends in a next state. -/
theorem retireSingle_next {d : Option Bool} {control : Bool} {s t : State} {e : Eff}
    (h : retireSingle d control s e = .next t) :
    (∃ m u c, modeNext s.mode s.armed d = some m ∧ e = .ok u c ∧ t = s.complete u m c) ∨
    (∃ u c, e = .trap c u ∧ u.dirbase.bl = false ∧ t = u.enterTrap c s.pc false) := by
  unfold retireSingle at h
  split at h
  · cases h
  · rename_i m hm
    split at h
    · cases h
    · split at h
      · cases h; exact .inl ⟨_, _, _, hm, rfl, rfl⟩
      · exact .inr ⟨_, _, rfl, State.takeTrap_next h⟩
      · cases h

/-! ## The writes of both halves of a pair (R384) -/

/-- One register of a pair. -/
theorem mergeRegs_get (old fp core : Vector Word 32) (i : Nat) (h : i < 32) :
    (mergeRegs old fp core)[i] = if fp[i] = old[i] then core[i] else fp[i] := by
  unfold mergeRegs
  simp [Vector.getElem_ofFn, pick]

/-- An integer register after a pair. -/
theorem State.overlay_R (s a b : State) (j : Reg) :
    (s.overlay a b).R j = if a.R j = s.R j then b.R j else a.R j := by
  unfold State.R
  by_cases hj : j = 0#5
  · simp [hj]
  · simp only [BitVec.ofNat_eq_ofNat, hj, if_false]
    exact mergeRegs_get s.r a.r b.r j.toNat j.isLt

/-- A floating-point register after a pair. -/
theorem State.overlay_FS (s a b : State) (j : Reg) :
    (s.overlay a b).FS j = if a.FS j = s.FS j then b.FS j else a.FS j := by
  unfold State.FS
  by_cases hj : isFZero j = true
  · simp [hj]
  · simp only [hj, if_false, Bool.false_eq_true]
    exact mergeRegs_get s.f a.f b.f j.toNat j.isLt

@[simp] theorem State.overlay_pc (s a b : State) : (s.overlay a b).pc = b.pc := rfl
@[simp] theorem State.overlay_delay (s a b : State) : (s.overlay a b).delay = b.delay := rfl
@[simp] theorem State.overlay_delayMode (s a b : State) : (s.overlay a b).delayMode = b.delayMode := rfl
@[simp] theorem State.overlay_skipCore (s a b : State) : (s.overlay a b).skipCore = b.skipCore := rfl
@[simp] theorem State.overlay_mode (s a b : State) : (s.overlay a b).mode = b.mode := rfl
@[simp] theorem State.overlay_armed (s a b : State) : (s.overlay a b).armed = b.armed := rfl
@[simp] theorem State.overlay_epsr (s a b : State) : (s.overlay a b).epsr = b.epsr := rfl
@[simp] theorem State.overlay_dirbase (s a b : State) : (s.overlay a b).dirbase = b.dirbase := rfl
@[simp] theorem State.overlay_db (s a b : State) : (s.overlay a b).db = b.db := rfl
@[simp] theorem State.overlay_fsr (s a b : State) : (s.overlay a b).fsr = b.fsr := rfl
@[simp] theorem State.overlay_firLatched (s a b : State) : (s.overlay a b).firLatched = b.firLatched := rfl
@[simp] theorem State.overlay_slotFirs (s a b : State) : (s.overlay a b).slotFirs = b.slotFirs := rfl
@[simp] theorem State.overlay_frames (s a b : State) : (s.overlay a b).frames = b.frames := rfl
@[simp] theorem State.overlay_lPipe (s a b : State) : (s.overlay a b).lPipe = b.lPipe := rfl
@[simp] theorem State.overlay_busLock (s a b : State) : (s.overlay a b).busLock = b.busLock := rfl
@[simp] theorem State.overlay_mem (s a b : State) : (s.overlay a b).mem = b.mem := rfl
@[simp] theorem State.overlay_undef (s a b : State) : (s.overlay a b).undef = b.undef := rfl
@[simp] theorem State.overlay_stored (s a b : State) : (s.overlay a b).stored = b.stored := rfl
@[simp] theorem State.overlay_holes (s a b : State) : (s.overlay a b).holes = b.holes := rfl
@[simp] theorem State.overlay_haltPc (s a b : State) : (s.overlay a b).haltPc = b.haltPc := rfl
@[simp] theorem State.overlay_free (s a b : State) : (s.overlay a b).free = b.free := rfl
@[simp] theorem State.overlay_kr (s a b : State) : (s.overlay a b).kr = a.kr := rfl
@[simp] theorem State.overlay_ki (s a b : State) : (s.overlay a b).ki = a.ki := rfl
@[simp] theorem State.overlay_t (s a b : State) : (s.overlay a b).t = a.t := rfl
@[simp] theorem State.overlay_merge (s a b : State) : (s.overlay a b).merge = a.merge := rfl
@[simp] theorem State.overlay_aPipe (s a b : State) : (s.overlay a b).aPipe = a.aPipe := rfl
@[simp] theorem State.overlay_mPipe (s a b : State) : (s.overlay a b).mPipe = a.mPipe := rfl
@[simp] theorem State.overlay_gPipe (s a b : State) : (s.overlay a b).gPipe = a.gPipe := rfl

/-- How the step of a pair ends in a next state: both halves complete, or one of them traps. -/
theorem retirePair_next {d control conflict : Bool} {s t : State} {ef : Eff} {core : State → Eff}
    (h : retirePair d control conflict s ef core = .next t) :
    (∃ sf cf sc c m, ef = .ok sf cf ∧ core { s with free := sf.free } = .ok sc c ∧ conflict = false ∧
      modeNext .dual s.armed (some d) = some m ∧ t = s.complete (s.overlay sf sc) m c) ∨
    (∃ sf c, ef = .trap c sf ∧ sf.dirbase.bl = false ∧ t = sf.enterTrap c s.pc false) ∨
    (∃ sf cf sc c, ef = .ok sf cf ∧ core { s with free := sf.free } = .trap c sc ∧
      ((sc.dirbase.bl = false ∧ t = (s.overlay sf sc.tick).enterTrap c s.pc true) ∨
        (sc.dirbase.bl = false ∧ t = sc.tick.enterTrap c s.pc false))) := by
  unfold retirePair at h
  cases ef with
  | refuse r =>
    dsimp only at h
    repeat' split at h
    all_goals cases h
  | trap c sf =>
    dsimp only at h
    split at h
    · cases h
    · split at h
      · cases h
      · split at h
        · cases h
        · split at h
          · cases h
          · cases h
          · exact .inr (.inl ⟨sf, c, rfl, State.takeTrap_next h⟩)
  | ok sf cf =>
    dsimp only [Eff.freeAfter] at h
    split at h
    · cases h
    · rename_i m hm
      split at h
      · cases h
      · split at h
        · cases h
        · rename_i hcf
          cases hec : core { s with free := sf.free } with
          | refuse r =>
            rw [hec] at h
            dsimp only at h
            split at h <;> cases h
          | trap c sc =>
            rw [hec] at h
            dsimp only [Eff.staticRefusal, pairCoreTrap] at h
            split at h
            · obtain ⟨h1, h2⟩ := State.takeTrap_next h
              rw [State.overlay_dirbase] at h1
              exact .inr (.inr ⟨sf, cf, sc, c, rfl, hec, .inl ⟨h1, h2⟩⟩)
            · obtain ⟨h1, h2⟩ := State.takeTrap_next h
              exact .inr (.inr ⟨sf, cf, sc, c, rfl, hec, .inr ⟨h1, h2⟩⟩)
          | ok sc c =>
            rw [hec] at h
            cases h
            exact .inl ⟨sf, cf, sc, c, m, rfl, hec, by simpa using hcf, hm, rfl⟩

/-- Where a step that ends in a next state comes from: an interrupt or a failed fetch, one instruction, or a pair. -/
theorem step_next {s t : State} (h : step s = .next t) :
    (∃ c, s.dirbase.bl = false ∧ t = s.enterTrap c s.pc false) ∨
    (∃ i, s.mode = .single ∧ exec i s = .next t) ∨
    (∃ fi ci, s.mode = .dual ∧ runPair fi ci s = .next t) := by
  unfold step at h
  split at h
  · cases h
  · split at h
    · exact .inl ⟨_, State.takeTrap_next h⟩
    · split at h
      · rename_i hm
        unfold stepSingle at h
        split at h
        · cases h
        · split at h
          · exact .inl ⟨_, State.takeTrap_next h⟩
          · cases h
          · exact .inr (.inl ⟨_, hm, h⟩)
      · rename_i hm
        unfold stepPair at h
        split at h
        · cases h
        · split at h
          · exact .inl ⟨_, State.takeTrap_next h⟩
          · exact .inl ⟨_, State.takeTrap_next h⟩
          · cases h
          · cases h
          · exact .inr (.inr ⟨_, _, hm, h⟩)

/-- A delivery completes in one of three ways (R291). -/
theorem deliver_ok {s t : State} {old : Entry} {dest : Reg} {p : Prec} (h : deliver s old dest p = .ok t) :
    (isFZero dest = true ∧ t = s) ∨ (∃ v, old = .val v p ∧ t = s.fwrite dest p v) ∨
      (old = .undef ∧ t = s.tick.fwrite dest p s.drawn) := by
  unfold deliver at h
  split at h
  · rename_i hz; cases h; exact .inl ⟨hz, rfl⟩
  · split at h
    · split at h
      · rename_i hq; subst hq; cases h; exact .inr (.inl ⟨_, rfl, rfl⟩)
      · cases h
    · cases h; exact .inr (.inr ⟨rfl, rfl⟩)

/-! ## The end of every instruction -/

/-- How an instruction ends in a next state. Alone, it completes or traps; in dual-instruction mode its effect is laid
over that of a no-operation in the other half (log entry 18). -/
theorem exec_next {i : Instr} {s t : State} (h : exec i s = .next t) :
    (∃ u c m, effect i s = .ok u c ∧
      (t = s.complete u m c ∨ t = s.complete (s.overlay u { s with free := u.free }) m .seq ∨
        t = s.complete (s.overlay s u) m c)) ∨
    (∃ u c, effect i s = .trap c u ∧ u.dirbase.bl = false ∧
      (t = u.enterTrap c s.pc false ∨ t = (s.overlay s u.tick).enterTrap c s.pc true ∨
        t = u.tick.enterTrap c s.pc false)) := by
  rw [exec_eq_retire, retire] at h
  split at h
  · rcases retireSingle_next h with ⟨m, u, c, _, he, ht⟩ | ⟨u, c, he, hb, ht⟩
    · exact .inl ⟨u, c, m, he, .inl ht⟩
    · exact .inr ⟨u, c, he, hb, .inl ht⟩
  · split at h
    · rcases retirePair_next h with ⟨sf, cf, sc, c, m, he, hc, _, _, ht⟩ | ⟨sf, c, he, hb, ht⟩ | ⟨sf, cf, sc, c, _, hc, _⟩
      · cases hc
        exact .inl ⟨sf, cf, m, he, .inr (.inl ht)⟩
      · exact .inr ⟨sf, c, he, hb, .inl ht⟩
      · cases hc
    · rcases retirePair_next h with ⟨sf, cf, sc, c, m, he, hc, _, _, ht⟩ | ⟨sf, c, he, _⟩ | ⟨sf, cf, sc, c, he, hc, ht⟩
      · cases he
        exact .inl ⟨sc, c, m, hc, .inr (.inr ht)⟩
      · cases he
      · cases he
        rcases ht with ⟨hb, ht⟩ | ⟨hb, ht⟩
        · exact .inr ⟨sc, c, hc, hb, .inr (.inl ht)⟩
        · exact .inr ⟨sc, c, hc, hb, .inr (.inr ht)⟩

/-- What holds of every state that an effect leaves, whether the instruction completes or traps. -/
def Eff.All (P : State → Prop) : Eff → Prop
  | .ok t _ => P t
  | .trap _ t => P t
  | .refuse _ => True

theorem Eff.all_demand {P : State → Prop} {b : Bool} {r : Refusal} {k : Eff} (h : k.All P) : (demand b r k).All P := by
  cases b
  · trivial
  · exact h

theorem Eff.all_reportResult {P : State → Prop} {s : State} {k : Eff} (h : P { s with fpPending := false })
    (hk : k.All P) : (reportResult s k).All P := by
  unfold reportResult
  split
  · exact h
  · exact hk

theorem Eff.all_mayReportResult {P : State → Prop} {s : State} {k : State → Eff}
    (h : P { s.tick with fpPending := false }) (hk : (k s).All P) (ht : (k s.tick).All P) :
    (mayReportResult s k).All P := by
  unfold mayReportResult
  split
  · split
    · exact h
    · exact ht
  · exact hk

theorem Eff.all_checkSource {P : State → Prop} {se : Bool} {s : State} {k : Eff} (h : P s) (hk : k.All P) :
    (checkSource se s k).All P := by
  unfold checkSource
  split
  · exact h
  · exact hk

theorem Eff.all_checkData {P : State → Prop} {s : State} {ea : Word} {n : Nat} {k : Eff} (h : P s) (hk : k.All P) :
    (checkData s ea n k).All P := by
  unfold checkData
  split
  · exact hk
  · exact h

end Sys2Proof.Machine
end

