-- ==== Sys2Proof/Laws/Pairs.lean ====
section
/-!
SUPPORT. What each half of a pair can write (R384): a floating-point-format instruction leaves alone what only core
instructions write, a core instruction leaves alone the floating-point unit, and an instruction that traps has written
nothing. One lemma per shared operation, then one per half.
-/
namespace Sys2Proof.Machine

/-- What a floating-point-format instruction never writes is as it was. -/
structure FpWrites (s t : State) : Prop where
  psr : t.psr = { s.psr with cc := t.psr.cc, pm := t.psr.pm }
  epsr : t.epsr = s.epsr
  dirbase : t.dirbase = s.dirbase
  db : t.db = s.db
  fsr : t.fsr = s.fsr
  firLatched : t.firLatched = s.firLatched
  slotFirs : t.slotFirs = s.slotFirs
  frames : t.frames = s.frames
  lPipe : t.lPipe = s.lPipe
  busLock : t.busLock = s.busLock
  mem : t.mem = s.mem
  undef : t.undef = s.undef
  stored : t.stored = s.stored
  holes : t.holes = s.holes
  haltPc : t.haltPc = s.haltPc
  pc : t.pc = s.pc
  delay : t.delay = s.delay
  delayMode : t.delayMode = s.delayMode
  skipCore : t.skipCore = s.skipCore
  mode : t.mode = s.mode
  armed : t.armed = s.armed

/-- What a core instruction never writes is as it was. -/
structure CoreWrites (s u : State) : Prop where
  kr : u.kr = s.kr
  ki : u.ki = s.ki
  t : u.t = s.t
  merge : u.merge = s.merge
  aPipe : u.aPipe = s.aPipe
  mPipe : u.mPipe = s.mPipe
  gPipe : u.gPipe = s.gPipe
  fpPending : u.fpPending = s.fpPending
  holes : u.holes = s.holes
  haltPc : u.haltPc = s.haltPc
  pc : u.pc = s.pc
  delay : u.delay = s.delay
  delayMode : u.delayMode = s.delayMode
  skipCore : u.skipCore = s.skipCore
  mode : u.mode = s.mode
  armed : u.armed = s.armed

/-- The state of a trap: nothing is written, a result exception may have been reported and free values drawn. -/
def Untouched (s t : State) : Prop := t = { s with fpPending := t.fpPending, free := t.free }

/-- The effect of a floating-point-format instruction. -/
def Eff.FpHalf (s : State) : Eff → Prop
  | .ok t c => FpWrites s t ∧ c = .seq
  | .trap c t => c = .ft ∧ Untouched s t
  | .refuse _ => True

/-- The effect of a core instruction. -/
def Eff.CoreHalf (s : State) : Eff → Prop
  | .ok t _ => CoreWrites s t
  | .trap _ t => Untouched s t
  | .refuse _ => True

/-! ## Floating-point format -/

theorem FpWrites.note {s t : State} (h : FpWrites s t) (o : FpOut) : FpWrites s (t.noteResult o) := by
  rw [State.noteResult_eq]
  exact ⟨h.1, h.2, h.3, h.4, h.5, h.6, h.7, h.8, h.9, h.10, h.11, h.12, h.13, h.14, h.15, h.16, h.17,
    h.18, h.19, h.20, h.21⟩

theorem FpWrites.write {s t : State} (h : FpWrites s t) (i : Reg) (p : Prec) (v : DWord) :
    FpWrites s (t.fwrite i p v) := by
  obtain ⟨h1, h2, h3, h4, h5, h6, h7, h8, h9, h10, h11, h12, h13, h14, h15, h16, h17, h18, h19, h20, h21⟩ := h
  refine ⟨by rw [State.fwrite_psr]; exact h1, ?_, ?_, ?_, ?_, ?_, ?_, ?_, ?_, ?_, ?_, ?_, ?_, ?_, ?_, ?_, ?_, ?_, ?_, ?_, ?_⟩ <;>
    simpa

theorem FpWrites.register {s t : State} (h : FpWrites s t) (i : Reg) (v : Word) : FpWrites s (t.setR i v) := by
  obtain ⟨h1, h2, h3, h4, h5, h6, h7, h8, h9, h10, h11, h12, h13, h14, h15, h16, h17, h18, h19, h20, h21⟩ := h
  refine ⟨by rw [State.setR_psr]; exact h1, ?_, ?_, ?_, ?_, ?_, ?_, ?_, ?_, ?_, ?_, ?_, ?_, ?_, ?_, ?_, ?_, ?_, ?_, ?_, ?_⟩ <;>
    simpa

theorem FpWrites.tick {s t : State} (h : FpWrites s t) : FpWrites s t.tick := ⟨h.1, h.2, h.3, h.4, h.5, h.6, h.7, h.8, h.9, h.10, h.11, h.12, h.13, h.14, h.15, h.16, h.17,
    h.18, h.19, h.20, h.21⟩

/-- A state that differs only in the floating-point unit. -/
theorem FpWrites.unit {s t : State} (h : FpWrites s t) (kr ki x : FpSpecial) (merge : DWord) (a : Pipe3 Entry)
    (m : MPipe) (g : Entry) (cc : Bool) (pm : Byte) :
    FpWrites s { t with
      kr := kr, ki := ki, t := x, merge := merge, aPipe := a, mPipe := m, gPipe := g,
      psr := { t.psr with cc := cc, pm := pm } } := by
  refine ⟨?_, h.2, h.3, h.4, h.5, h.6, h.7, h.8, h.9, h.10, h.11, h.12, h.13, h.14, h.15, h.16, h.17, h.18, h.19, h.20,
    h.21⟩
  show { t.psr with cc := cc, pm := pm } = _
  rw [h.psr]

theorem FpWrites.self (s : State) : FpWrites s s := by constructor <;> rfl

theorem FpWrites.delivered {s t u : State} {e : Entry} {dest : Reg} {p : Prec} (h : FpWrites s t)
    (hd : deliver t e dest p = .ok u) : FpWrites s u := by
  rcases deliver_ok hd with ⟨_, rfl⟩ | ⟨v, _, rfl⟩ | ⟨_, rfl⟩
  · exact h
  · exact h.write _ _ _
  · exact h.tick.write _ _ _

theorem fpHalf_demand {s : State} {b : Bool} {r : Refusal} {k : Eff} (h : k.FpHalf s) : (demand b r k).FpHalf s := by
  cases b
  · trivial
  · exact h

theorem fpHalf_report {s : State} {k : Eff} (h : k.FpHalf s) : (reportResult s k).FpHalf s := by
  unfold reportResult
  split
  · exact ⟨rfl, rfl⟩
  · exact h

theorem fpHalf_source {s t : State} {se : Bool} {k : Eff} (ht : Untouched s t) (h : k.FpHalf s) :
    (checkSource se t k).FpHalf s := by
  unfold checkSource
  split
  · exact ⟨rfl, ht⟩
  · exact h

/-- A delivery that goes on. -/
theorem fpHalf_deliver {s t : State} {e : Entry} {dest : Reg} {p : Prec} {k : State → Eff} (ht : FpWrites s t)
    (h : ∀ u, FpWrites s u → (k u).FpHalf s) :
    (match deliver t e dest p with | .error r => Eff.refuse r | .ok u => k u).FpHalf s := by
  cases hd : deliver t e dest p with
  | error r => trivial
  | ok u => exact h u (ht.delivered hd)

theorem fpHalf_scalarAdder (rp : Prec) (dest : Reg) (o : FpOut) (s : State) : (scalarAdder rp dest o s).FpHalf s :=
  fpHalf_source rfl ⟨(((FpWrites.self s).unit s.kr s.ki s.t s.merge _ s.mPipe s.gPipe s.psr.cc s.psr.pm).write _ _ _).note o, rfl⟩

theorem fpHalf_scalarMultiplier (rp : Prec) (dest : Reg) (o : FpOut) (s : State) :
    (scalarMultiplier rp dest o s).FpHalf s :=
  fpHalf_source rfl ⟨(((FpWrites.self s).unit s.kr s.ki s.t s.merge s.aPipe _ s.gPipe s.psr.cc s.psr.pm).write _ _ _).note o, rfl⟩

theorem fpHalf_scalar2 {unit : Prec → Reg → FpOut → State → Eff} (h : ∀ rp dest o s, (unit rp dest o s).FpHalf s)
    (f : Prec → Prec → FpEnv → DWord → DWord → FpOut) (sp rp : Prec) (src1 src2 dest : Reg) (s : State) :
    (scalar2 unit f sp rp src1 src2 dest s).FpHalf s :=
  fpHalf_demand (fpHalf_report (h _ _ _ _))

theorem fpHalf_scalarToInt (f : Prec → FpEnv → DWord → FpOut) (sp rp : Prec) (src dest : Reg) (s : State) :
    (scalarToInt f sp rp src dest s).FpHalf s := by
  refine fpHalf_demand (fpHalf_report (fpHalf_source rfl ⟨?_, rfl⟩))
  refine (FpWrites.write ?_ _ _ _).note _
  cases rp
  · exact (FpWrites.self s).unit s.kr s.ki s.t s.merge _ s.mPipe s.gPipe s.psr.cc s.psr.pm
  · exact (FpWrites.self s).tick.unit s.kr s.ki s.t s.merge _ s.mPipe s.gPipe s.psr.cc s.psr.pm

theorem fpHalf_scalarMove (sp rp : Prec) (src dest : Reg) (s : State) : (scalarMove sp rp src dest s).FpHalf s :=
  fpHalf_demand (fpHalf_report (fpHalf_scalarAdder _ _ _ _))

theorem fpHalf_scalarSeed (f : Prec → Prec → FpEnv → DWord → DWord → FpOut) (sp rp : Prec) (src dest : Reg) (s : State) :
    (scalarSeed f sp rp src dest s).FpHalf s :=
  fpHalf_demand (fpHalf_report (fpHalf_source rfl
    ⟨(((FpWrites.self s).tick.unit s.kr s.ki s.t s.merge s.aPipe _ s.gPipe s.psr.cc s.psr.pm).write _ _ _).note _, rfl⟩))

theorem fpHalf_mulLow (d : Bool) (src1 src2 dest : Reg) (s : State) : (effFmlowDd d src1 src2 dest s).FpHalf s :=
  fpHalf_demand (fpHalf_report
    ⟨((FpWrites.self s).tick.unit s.kr s.ki s.t s.merge s.aPipe _ s.gPipe s.psr.cc s.psr.pm).write _ .d _, rfl⟩)

theorem fpHalf_pipedAdder (rp : Prec) (dest : Reg) (new : Entry) (o : FpOut) (s : State) :
    (pipedAdder rp dest new o s).FpHalf s :=
  fpHalf_source rfl (fpHalf_deliver (FpWrites.self s) fun u hu =>
    ⟨(hu.unit u.kr u.ki u.t u.merge _ u.mPipe u.gPipe u.psr.cc u.psr.pm).note o, rfl⟩)

theorem fpHalf_pipedAdder2 (f : Prec → Prec → FpEnv → DWord → DWord → FpOut) (sp rp : Prec) (src1 src2 dest : Reg)
    (s : State) : (pipedAdder2 f sp rp src1 src2 dest s).FpHalf s :=
  fpHalf_demand (fpHalf_report (fpHalf_pipedAdder _ _ _ _ _))

theorem fpHalf_pipedMove (sp rp : Prec) (src dest : Reg) (s : State) : (pipedMove sp rp src dest s).FpHalf s :=
  fpHalf_demand (fpHalf_report (fpHalf_pipedAdder _ _ _ _ _))

theorem fpHalf_pipedToInt (f : Prec → FpEnv → DWord → FpOut) (sp rp : Prec) (src dest : Reg) (s : State) :
    (pipedToInt f sp rp src dest s).FpHalf s := by
  refine fpHalf_demand (fpHalf_report ?_)
  cases rp
  · exact fpHalf_pipedAdder _ _ _ _ _
  · exact fpHalf_source rfl (fpHalf_deliver (FpWrites.self s).tick fun u hu =>
      ⟨(hu.unit u.kr u.ki u.t u.merge _ u.mPipe u.gPipe u.psr.cc u.psr.pm).note _, rfl⟩)

theorem fpHalf_pipedCompare (f : Prec → FpEnv → DWord → DWord → FpCond) (invert : Bool) (sp : Prec)
    (src1 src2 dest : Reg) (s : State) : (pipedCompare f invert sp src1 src2 dest s).FpHalf s :=
  fpHalf_demand (fpHalf_report (fpHalf_source rfl (fpHalf_deliver (FpWrites.self s) fun u hu =>
    ⟨hu.unit u.kr u.ki u.t u.merge _ u.mPipe u.gPipe _ u.psr.pm, rfl⟩)))

theorem fpHalf_pipedMultiplier (three : Bool) (sp rp : Prec) (src1 src2 dest : Reg) (s : State) :
    (pipedMultiplier three sp rp src1 src2 dest s).FpHalf s := by
  refine fpHalf_demand (fpHalf_demand (fpHalf_report ?_))
  split
  · trivial
  · exact fpHalf_source rfl (fpHalf_deliver (FpWrites.self s) fun u hu =>
      ⟨(hu.unit u.kr u.ki u.t u.merge u.aPipe _ u.gPipe u.psr.cc u.psr.pm).note _, rfl⟩)

theorem FpWrites.loadT {s t : State} (h : FpWrites s t) (b : Bool) (e : Entry) (p : Prec) :
    FpWrites s (t.loadT b e p) := by
  unfold State.loadT
  split
  · split
    · exact h.unit t.kr t.ki _ t.merge t.aPipe t.mPipe t.gPipe t.psr.cc t.psr.pm
    · exact h.tick.unit t.kr t.ki _ t.merge t.aPipe t.mPipe t.gPipe t.psr.cc t.psr.pm
  · exact h

theorem FpWrites.loadK {s t : State} (h : FpWrites s t) (k : KLoad) (v : DWord) (p : Prec) :
    FpWrites s (t.loadK k v p) := by
  cases k
  · exact h
  · exact h.unit _ t.ki t.t t.merge t.aPipe t.mPipe t.gPipe t.psr.cc t.psr.pm
  · exact h.unit t.kr _ t.t t.merge t.aPipe t.mPipe t.gPipe t.psr.cc t.psr.pm

theorem fpHalf_dualOperation (f : Prec → Prec → FpEnv → DWord → DWord → FpOut) (toMul : Bool) (path : DataPath)
    (p : Prec) (src1 src2 dest : Reg) (s : State) : (dualOperation f toMul path p src1 src2 dest s).FpHalf s := by
  refine fpHalf_demand (fpHalf_demand (fpHalf_report ?_))
  split
  · trivial
  · refine fpHalf_source rfl (fpHalf_deliver (FpWrites.self s) fun u hu => ⟨?_, rfl⟩)
    refine (FpWrites.note ?_ _).note _
    exact FpWrites.unit ((hu.loadT _ _ _).loadK _ _ _) (State.kr _) (State.ki _) (State.t _) (State.merge _) _ _
      (State.gPipe _) (State.psr _).cc (State.psr _).pm

theorem fpHalf_graphicsScalar {s t : State} (p : Prec) (dest : Reg) (v : DWord) (h : FpWrites s t) :
    (graphicsScalar p dest v t).FpHalf s :=
  ⟨(h.unit t.kr t.ki t.t t.merge t.aPipe t.mPipe _ t.psr.cc t.psr.pm).write _ _ _, rfl⟩

theorem fpHalf_graphicsPiped {s t : State} (p : Prec) (dest : Reg) (v : DWord) (h : FpWrites s t) :
    (graphicsPiped p dest v t).FpHalf s :=
  fpHalf_deliver h fun u hu => ⟨hu.unit u.kr u.ki u.t u.merge u.aPipe u.mPipe _ u.psr.cc u.psr.pm, rfl⟩

theorem fpHalf_longScalar (f : DWord → DWord → DWord) (p : Prec) (src1 src2 dest : Reg) (s : State) :
    (longScalar f p src1 src2 dest s).FpHalf s :=
  fpHalf_demand (fpHalf_report (fpHalf_graphicsScalar _ _ _ (FpWrites.self s)))

theorem fpHalf_longPiped (f : DWord → DWord → DWord) (p : Prec) (src1 src2 dest : Reg) (s : State) :
    (longPiped f p src1 src2 dest s).FpHalf s :=
  fpHalf_demand (fpHalf_demand (fpHalf_report (fpHalf_graphicsPiped _ _ _ (FpWrites.self s))))

/-- A MERGE instruction, by either ending. -/
theorem FpWrites.merged {s : State} (v : DWord) : FpWrites s (s.setMerge v) :=
  (FpWrites.self s).unit s.kr s.ki s.t v s.aPipe s.mPipe s.gPipe s.psr.cc s.psr.pm

theorem fpHalf_addPixels {ending : Prec → Reg → DWord → State → Eff}
    (h : ∀ (s t : State) p dest v, FpWrites s t → (ending p dest v t).FpHalf s) (src1 src2 dest : Reg) (s : State) :
    (addPixels ending src1 src2 dest s).FpHalf s := by
  unfold addPixels
  dsimp only
  split
  · trivial
  · exact h _ _ _ _ _ (.merged _)

theorem fpHalf_zCheck {ending : Prec → Reg → DWord → State → Eff}
    (h : ∀ (s t : State) p dest v, FpWrites s t → (ending p dest v t).FpHalf s) (w : Nat) (src1 src2 dest : Reg)
    (s : State) : (zCheck ending w src1 src2 dest s).FpHalf s :=
  h _ _ _ _ _ ((FpWrites.self s).unit s.kr s.ki s.t 0 s.aPipe s.mPipe s.gPipe s.psr.cc _)

theorem fpHalf_scalarEnding (s t : State) (p : Prec) (dest : Reg) (v : DWord) (h : FpWrites s t) :
    (graphicsScalar p dest v t).FpHalf s := fpHalf_graphicsScalar p dest v h

theorem fpHalf_pipedEnding (s t : State) (p : Prec) (dest : Reg) (v : DWord) (h : FpWrites s t) :
    (graphicsPiped p dest v t).FpHalf s := fpHalf_graphicsPiped p dest v h

/-- Every instruction that may stand in the first half (R383). -/
theorem effect_fpHalf (i : Instr) (s : State) (h : (dbit i).isSome = true) : (effect i s).FpHalf s := by
  cases i
  case faddSs | faddSd | faddDd | fsubSs | fsubSd | fsubDd =>
    simp only [effect, effFaddSs, effFsubSs]
    exact fpHalf_scalar2 fpHalf_scalarAdder _ _ _ _ _ _ _
  case fmulSs | fmulSd | fmulDd =>
    simp only [effect, effFmulSs]
    exact fpHalf_scalar2 fpHalf_scalarMultiplier _ _ _ _ _ _ _
  case fixSs | fixSd | fixDd | ftruncSs | ftruncSd | ftruncDd =>
    simp only [effect, effFixSs, effFtruncSs]
    exact fpHalf_scalarToInt _ _ _ _ _ _
  case famovSs | famovSd | famovDs | famovDd | fmovSd | fmovDs =>
    simp only [effect, effFamovSs]
    exact fpHalf_scalarMove _ _ _ _ _
  case frcpSs | frcpSd | frcpDd | frsqrSs | frsqrSd | frsqrDd =>
    simp only [effect, effFrcpSs, effFrsqrSs]
    exact fpHalf_scalarSeed _ _ _ _ _ _
  case fmlowDd => exact fpHalf_mulLow true _ _ _ _
  case pfaddSs | pfaddSd | pfaddDd | pfsubSs | pfsubSd | pfsubDd =>
    simp only [effect, effPfaddSs, effPfsubSs]
    exact fpHalf_pipedAdder2 _ _ _ _ _ _ _
  case pfamovSs | pfamovSd | pfamovDs | pfamovDd | pfmovSd | pfmovDs =>
    simp only [effect, effPfamovSs]
    exact fpHalf_pipedMove _ _ _ _ _
  case pfixSs | pfixSd | pfixDd | pftruncSs | pftruncSd | pftruncDd =>
    simp only [effect, effPfixSs, effPftruncSs]
    exact fpHalf_pipedToInt _ _ _ _ _ _
  case pfgtSs | pfgtDd | pfleSs | pfleDd | pfeqSs | pfeqDd =>
    simp only [effect, effPfgtSs, effPfleSs, effPfeqSs]
    exact fpHalf_pipedCompare _ _ _ _ _ _ _
  case pfmulSs | pfmulSd | pfmulDd | pfmul3Dd =>
    simp only [effect, effPfmulSs]
    exact fpHalf_pipedMultiplier _ _ _ _ _ _ _
  case pfamSs | pfamDd | pfsmSs | pfsmDd | pfmamSs | pfmamDd | pfmsmSs | pfmsmDd =>
    simp only [effect, effPfamSs, effPfsmSs, effPfmamSs, effPfmsmSs]
    exact fpHalf_dualOperation _ _ _ _ _ _ _ _
  case pfamSd | pfsmSd | pfmamSd | pfmsmSd => exact trivial
  case fiaddSs | fiaddDd | fisubSs | fisubDd | fmovSs | fmovDd =>
    simp only [effect, effFiaddSs, effFisubSs, effFmovSs]
    exact fpHalf_longScalar _ _ _ _ _ _
  case pfiaddSs | pfiaddDd | pfisubSs | pfisubDd | pfmovSs | pfmovDd =>
    simp only [effect, effPfiaddSs, effPfisubSs, effPfmovSs]
    exact fpHalf_longPiped _ _ _ _ _ _
  case faddp => exact fpHalf_demand (fpHalf_report (fpHalf_addPixels fpHalf_scalarEnding _ _ _ _))
  case pfaddp => exact fpHalf_demand (fpHalf_demand (fpHalf_report (fpHalf_addPixels fpHalf_pipedEnding _ _ _ _)))
  case faddz | form => exact fpHalf_demand (fpHalf_report (fpHalf_graphicsScalar _ _ _ (.merged _)))
  case pfaddz | pform => exact fpHalf_demand (fpHalf_demand (fpHalf_report (fpHalf_graphicsPiped _ _ _ (.merged _))))
  case fzchkl | fzchks => exact fpHalf_demand (fpHalf_report (fpHalf_zCheck fpHalf_scalarEnding _ _ _ _ _))
  case pfzchkl | pfzchks => exact fpHalf_demand (fpHalf_report (fpHalf_zCheck fpHalf_pipedEnding _ _ _ _ _))
  case fnop => exact ⟨.self s, rfl⟩
  case fxfr =>
    exact fpHalf_report ⟨.register ((FpWrites.self s).unit s.kr s.ki s.t s.merge s.aPipe s.mPipe .undef s.psr.cc s.psr.pm) _ _, rfl⟩
  case shrd => exact ⟨.register (.self s) _ _, rfl⟩
  all_goals exact absurd h Bool.false_ne_true

/-! ## Core instructions -/

theorem CoreWrites.self (s : State) : CoreWrites s s := by constructor <;> rfl

theorem CoreWrites.trans {s t u : State} (h : CoreWrites s t) (k : CoreWrites t u) : CoreWrites s u :=
  ⟨k.1.trans h.1, k.2.trans h.2, k.3.trans h.3, k.4.trans h.4, k.5.trans h.5, k.6.trans h.6, k.7.trans h.7,
    k.8.trans h.8, k.9.trans h.9, k.10.trans h.10, k.11.trans h.11, k.12.trans h.12, k.13.trans h.13, k.14.trans h.14,
    k.15.trans h.15, k.16.trans h.16⟩

theorem CoreWrites.tick (s : State) : CoreWrites s s.tick := by constructor <;> rfl

theorem CoreWrites.setR (s : State) (i : Reg) (v : Word) : CoreWrites s (s.setR i v) := by constructor <;> simp

theorem CoreWrites.setFS (s : State) (i : Reg) (v : Word) : CoreWrites s (s.setFS i v) := by constructor <;> simp

theorem CoreWrites.setFD (s : State) (i : Reg) (v : DWord) : CoreWrites s (s.setFD i v) := by constructor <;> simp

theorem CoreWrites.setFQ (s : State) (i : Reg) (v : BitVec 128) : CoreWrites s (s.setFQ i v) := by
  constructor <;> simp

theorem CoreWrites.fwrite (s : State) (i : Reg) (p : Prec) (v : DWord) : CoreWrites s (s.fwrite i p v) := by
  constructor <;> simp

theorem CoreWrites.increment (s : State) (auto : Bool) (base : Reg) (ea : Word) :
    CoreWrites s (s.increment auto base ea) := by
  constructor <;> simp

theorem CoreWrites.incremented {s t : State} (h : CoreWrites s t) (auto : Bool) (base : Reg) (ea : Word) :
    CoreWrites s (t.increment auto base ea) := h.trans (.increment t auto base ea)

theorem CoreWrites.accessed (s : State) : CoreWrites s s.accessed := by constructor <;> simp

theorem CoreWrites.loaded (s : State) (ea : Word) (n : Nat) : CoreWrites s (s.loaded ea n) := by constructor <;> simp

theorem CoreWrites.storeBits (s : State) (ea : Word) (n : Nat) (v : BitVec 128) : CoreWrites s (s.storeBits ea n v) := by
  constructor <;> rfl

theorem CoreWrites.storePixels (s : State) (ea : Word) (b : Nat) (v : BitVec 128) (l : List Nat) :
    CoreWrites s (storePixels s ea b v l) := by
  induction l generalizing s with
  | nil => exact .self s
  | cons i l ih => exact (CoreWrites.storeBits s _ _ _).trans (ih _)

theorem coreHalf_demand {s : State} {b : Bool} {r : Refusal} {k : Eff} (h : k.CoreHalf s) :
    (demand b r k).CoreHalf s := by
  cases b
  · trivial
  · exact h

theorem coreHalf_report {s : State} {k : Eff} (h : k.CoreHalf s) : (reportResult s k).CoreHalf s := by
  unfold reportResult
  split
  · exact rfl
  · exact h

theorem coreHalf_mayReport {s : State} {k : State → Eff}
    (h : ∀ t, CoreWrites s t → Untouched s t → (k t).CoreHalf s) : (mayReportResult s k).CoreHalf s := by
  unfold mayReportResult
  split
  · split
    · exact rfl
    · exact h _ (.tick s) rfl
  · exact h _ (.self s) rfl

theorem coreHalf_data {s t : State} {ea : Word} {n : Nat} {k : Eff} (ht : Untouched s t) (h : k.CoreHalf s) :
    (checkData t ea n k).CoreHalf s := by
  unfold checkData
  split
  · exact h
  · exact ht

theorem coreHalf_setSum (s : State) (dest : Reg) (v : Word) (fl : SumFlags) : (setSum s dest v fl).CoreHalf s := by
  constructor <;> simp

theorem coreHalf_setLogical (s : State) (dest : Reg) (v : Word) : (setLogical s dest v).CoreHalf s := by
  constructor <;> simp

theorem coreHalf_shiftRight (s : State) (dest : Reg) (n : BitVec 5) (v : Word) : (shiftRight s dest n v).CoreHalf s := by
  constructor <;> simp

theorem coreHalf_setR (s : State) (dest : Reg) (v : Word) (c : Ctl) : (Eff.ok (s.setR dest v) c).CoreHalf s := .setR s dest v

theorem coreHalf_loadInt (n : Nat) (ext : BitVec 128 → Word) (dest : Reg) (ea : Word) (s : State) :
    (loadInt n ext dest ea s).CoreHalf s :=
  coreHalf_data rfl ((CoreWrites.loaded s ea n).trans (.setR _ _ _))

theorem coreHalf_storeData (n : Nat) (v : BitVec 128) (auto : Bool) (base : Reg) (ea : Word) (s : State) :
    (storeData n v auto base ea s).CoreHalf s :=
  coreHalf_data rfl (coreHalf_demand (((CoreWrites.accessed s).trans (.storeBits _ _ _ _)).trans (.increment _ _ _ _)))

theorem coreHalf_loadFp (n : Nat) {write : State → BitVec 128 → State} (hw : ∀ t v, CoreWrites t (write t v))
    (auto : Bool) (base : Reg) (ea : Word) (s : State) : (loadFp n write auto base ea s).CoreHalf s :=
  coreHalf_mayReport fun t ht hu =>
    coreHalf_data hu (((ht.trans (.loaded t ea n)).trans (hw _ _)).trans (.increment _ _ _ _))

/-- What a pfld that goes on delivers. -/
theorem deliverLoad_ok {s t : State} {old : LoadEntry} {dest : Reg} {p : Prec} (h : deliverLoad s old dest p = .ok t) :
    (∃ a v q, old = .val a v q ∧ q.fits dest = true ∧ t = s.fwrite dest q v) ∨
    (old = .undef ∧ isFZero dest = true ∧ t = s) ∨
    (old = .undef ∧ isFZero dest = false ∧ t = s.tick.fwrite dest (if p.fits dest then p else .s) s.drawn) := by
  unfold deliverLoad at h
  split at h
  · split at h
    · cases h; exact .inl ⟨_, _, _, rfl, ‹_›, rfl⟩
    · cases h
  · split at h
    · cases h; exact .inr (.inl ⟨rfl, ‹_›, rfl⟩)
    · rename_i hz
      cases h; exact .inr (.inr ⟨rfl, by simpa using hz, rfl⟩)

theorem coreHalf_pipedLoad (p : Prec) (auto : Bool) (base dest : Reg) (ea : Word) (s : State) :
    (pipedLoad p auto base dest ea s).CoreHalf s := by
  refine coreHalf_mayReport fun t ht hu => coreHalf_data hu ?_
  split
  · trivial
  · rename_i u hd
    have hl : CoreWrites s (t.loaded ea p.bytes) := ht.trans (.loaded t ea p.bytes)
    have hs : CoreWrites s u := by
      rcases deliverLoad_ok hd with ⟨_, _, _, _, _, rfl⟩ | ⟨_, _, rfl⟩ | ⟨_, _, rfl⟩
      · exact hl.trans (.fwrite _ _ _ _)
      · exact hl
      · exact (hl.trans (.tick _)).trans (.fwrite _ _ _ _)
    show CoreWrites s _
    refine .incremented ?_ _ _ _
    exact ⟨hs.1, hs.2, hs.3, hs.4, hs.5, hs.6, hs.7, hs.8, hs.9, hs.10, hs.11, hs.12, hs.13, hs.14,
      hs.15, hs.16⟩

theorem coreHalf_pixelStore (auto : Bool) (base dest : Reg) (ea : Word) (s : State) :
    (pixelStore auto base dest ea s).CoreHalf s := by
  refine coreHalf_data rfl ?_
  split
  · trivial
  · rename_i b hb
    have h := (CoreWrites.accessed s).trans
      (.storePixels s.accessed ea b ((s.FD dest).setWidth 128) (enabledPixels s.psr.pm b))
    refine coreHalf_demand ?_
    show CoreWrites s _
    refine .incremented ?_ _ _ _
    exact ⟨h.1, h.2, h.3, h.4, h.5, h.6, h.7, h.8, h.9, h.10, h.11, h.12, h.13, h.14,
      h.15, h.16⟩

theorem coreHalf_branchIf (taken : Bool) (target : Word) (s : State) : (branchIf taken target s).CoreHalf s :=
  coreHalf_demand (.self s)

theorem coreHalf_branchOrSkip (taken : Bool) (target : Word) (s : State) : (branchOrSkip taken target s).CoreHalf s :=
  coreHalf_demand (.self s)

theorem coreHalf_bri (src1 : Reg) (s : State) : (effBri src1 s).CoreHalf s := by
  refine coreHalf_demand (coreHalf_demand ?_)
  split
  · exact coreHalf_demand (coreHalf_demand (coreHalf_demand (by constructor <;> rfl)))
  · exact .self s

theorem coreHalf_bla (src1 src2 : Reg) (off : BitVec 16) (s : State) : (effBla src1 src2 off s).CoreHalf s :=
  coreHalf_demand (coreHalf_demand (by constructor <;> simp))

theorem coreHalf_ldc (c : CReg) (dest : Reg) (s : State) : (effLdc c dest s).CoreHalf s := by constructor <;> simp

theorem coreHalf_stc (src1 : Reg) (c : CReg) (s : State) : (effStc src1 c s).CoreHalf s := by
  cases c
  case fir => exact .self s
  case fsr => constructor <;> rfl
  case psr =>
    show (writePsr _ s).CoreHalf s
    unfold writePsr
    split
    · constructor <;> rfl
    · exact coreHalf_demand (by constructor <;> rfl)
  case dirbase =>
    show (writeDirbase _ s).CoreHalf s
    unfold writeDirbase
    split
    · exact .self s
    · exact coreHalf_demand (by constructor <;> rfl)
  case epsr =>
    show (writeEpsr _ s).CoreHalf s
    unfold writeEpsr
    split
    · exact .self s
    · exact coreHalf_demand (by constructor <;> rfl)
  case db =>
    show (if s.psr.u then Eff.ok s .seq else _).CoreHalf s
    split
    · exact .self s
    · constructor <;> rfl

theorem coreHalf_intovr (s : State) : (effIntovr s).CoreHalf s := by
  refine coreHalf_demand ?_
  split
  · exact rfl
  · exact .self s

/-- Every instruction that may stand in the second half (R383). -/
theorem effect_coreHalf (i : Instr) (s : State) (h : (traits i).fp = false) : (effect i s).CoreHalf s := by
  cases i
  case adduR | adduI | subuR | subuI | addsR | addsI | subsR | subsI => exact coreHalf_setSum _ _ _ _
  case andR | andI | andh | andnotR | andnotI | andnoth | orR | orI | orh | xorR | xorI | xorh => exact coreHalf_setLogical _ _ _
  case shrR | shrI => exact coreHalf_shiftRight _ _ _ _
  case shlR | shlI | shraR | shraI | shrd | mov => exact CoreWrites.setR _ _ _
  case ldbR | ldbI | ldsR | ldsI | ldlR | ldlI => exact coreHalf_loadInt _ _ _ _ _
  case stb | sts | stl => exact coreHalf_storeData _ _ _ _ _ _
  case fldlR => exact coreHalf_demand (coreHalf_loadFp _ (fun _ _ => .setFS _ _ _) _ _ _ _)
  case fldlI =>
    simp only [effect, effFldlI]
    exact coreHalf_loadFp _ (fun _ _ => .setFS _ _ _) _ _ _ _
  case flddR => exact coreHalf_demand (coreHalf_demand (coreHalf_loadFp _ (fun _ _ => .setFD _ _ _) _ _ _ _))
  case flddI => exact coreHalf_demand (coreHalf_loadFp _ (fun _ _ => .setFD _ _ _) _ _ _ _)
  case fldqR => exact coreHalf_demand (coreHalf_demand (coreHalf_loadFp _ (fun _ _ => .setFQ _ _ _) _ _ _ _))
  case fldqI => exact coreHalf_demand (coreHalf_loadFp _ (fun _ _ => .setFQ _ _ _) _ _ _ _)
  case fstlR => exact coreHalf_demand (coreHalf_report (coreHalf_storeData _ _ _ _ _ _))
  case fstlI => exact coreHalf_report (coreHalf_storeData _ _ _ _ _ _)
  case fstdR | fstqR => exact coreHalf_demand (coreHalf_demand (coreHalf_report (coreHalf_storeData _ _ _ _ _ _)))
  case fstdI | fstqI => exact coreHalf_demand (coreHalf_report (coreHalf_storeData _ _ _ _ _ _))
  case pfldlR | pflddR => exact coreHalf_demand (coreHalf_pipedLoad _ _ _ _ _ _)
  case pfldlI | pflddI => exact coreHalf_pipedLoad _ _ _ _ _ _
  case pstd => exact coreHalf_demand (coreHalf_report (coreHalf_pixelStore _ _ _ _ _))
  case flush => exact CoreWrites.incremented (by constructor <;> rfl) _ _ _
  case ixfr =>
    simp only [effect, effIxfr]
    refine coreHalf_mayReport fun t ht _ => ?_
    exact CoreWrites.trans ht (.setFS t _ _)
  case bc | bnc | bteR | bteI | btneR | btneI => exact coreHalf_branchIf _ _ _
  case bcT | bncT => exact coreHalf_branchOrSkip _ _ _
  case br => exact coreHalf_demand (.self s)
  case call => exact coreHalf_demand (coreHalf_demand (.setR _ _ _))
  case calli => exact coreHalf_demand (coreHalf_demand (coreHalf_demand (coreHalf_demand (.setR _ _ _))))
  case bri => exact coreHalf_bri _ _
  case bla => exact coreHalf_bla _ _ _ _
  case ldc => exact coreHalf_ldc _ _ _
  case stc => exact coreHalf_stc _ _ _
  case trap => exact coreHalf_demand rfl
  case intovr => exact coreHalf_intovr s
  case lock | unlock => constructor <;> rfl
  case nop | fnop => exact CoreWrites.self s
  all_goals exact absurd h.symm Bool.false_ne_true

end Sys2Proof.Machine
end

