-- ==== Sys2Proof/Laws/PerInstr.lean ====
section
/-!
SUPPORT. The family TableMatch: the word of every instruction has the fixed bits that its row of spec/opcode_table.json
gives it. One lemma for each constructor.
-/
namespace Sys2Proof.Laws

/-! ## Masks of the word formats -/

/-- All ones leave the primary opcode. -/
theorem op_mask (op : BitVec 6) : op &&& 0x3F#6 = op := by revert op; decide

/-- A mask of the primary opcode and of the low field of a REG-format word (R102). -/
theorem regWord_mask (op : BitVec 6) (s2 d s1 m2 m1 : Reg) (l ml : BitVec 11) :
    regWord op s2 d s1 l &&& regWord 0x3F#6 m2 0#5 m1 ml = regWord op (s2 &&& m2) 0#5 (s1 &&& m1) (l &&& ml) := by
  unfold regWord
  rw [append_and, append_and, append_and, append_and, BitVec.and_zero, op_mask]

/-- The same for a word with an immediate (R103). -/
theorem immWord_mask (op : BitVec 6) (s2 d : Reg) (i mi : BitVec 16) :
    immWord op s2 d i &&& immWord 0x3F#6 0#5 0#5 mi = immWord op 0#5 0#5 (i &&& mi) := by
  unfold immWord
  rw [append_and, append_and, append_and, BitVec.and_zero, BitVec.and_zero, op_mask]

/-- The same for a word with a split offset (R104). -/
theorem splitWord_mask (op : BitVec 6) (s2 s1 : Reg) (o : BitVec 16) (ml : BitVec 11) :
    splitWord op s2 s1 o &&& regWord 0x3F#6 0#5 0#5 0#5 ml = regWord op 0#5 0#5 0#5 (o.extractLsb' 0 11 &&& ml) := by
  unfold splitWord regWord
  rw [append_and, append_and, append_and, append_and, BitVec.and_zero, BitVec.and_zero, BitVec.and_zero, op_mask]

/-- The same for a CTRL word (R115). -/
theorem ctrlWord_mask (op : BitVec 6) (o : BitVec 26) :
    ctrlWord op o &&& ctrlWord 0x3F#6 0#26 = ctrlWord op 0#26 := by
  unfold ctrlWord
  rw [append_and, BitVec.and_zero, op_mask]

/-- The same for a floating-point word, with or without S, R and SRC2 fixed (R120). -/
theorem fpWord_mask (s2 d s1 m2 : Reg) (p dd s r ms mr : Bool) (fop mf : BitVec 7) :
    fpWord s2 d s1 p dd s r fop &&&
        regWord 0x3F#6 m2 0#5 0#5 (1#1 ++ 0#1 ++ BitVec.ofBool ms ++ BitVec.ofBool mr ++ mf) =
      fpWord (s2 &&& m2) 0#5 0#5 p false (s && ms) (r && mr) (fop &&& mf) := by
  rw [fpWord_eq, fpWord_eq, regWord_mask, append_and, append_and, append_and, append_and, BitVec.and_zero,
    BitVec.and_zero]
  cases p <;> cases s <;> cases r <;> cases ms <;> cases mr <;> rfl

/-- The row bits of a dual operation. -/
theorem dual_mask (a : BitVec 3) (dpc : BitVec 4) : (a ++ dpc) &&& 112#7 = a ++ 0#4 := by revert a dpc; decide

/-- Bit 0 of an offset that holds the size there. -/
theorem offX_mask (o : BitVec 15) (b : Bool) : offX o b &&& 1#16 = 0#15 ++ BitVec.ofBool b := by
  unfold offX
  have : (1#16 : BitVec 16) = 0#15 ++ 1#1 := rfl
  rw [this, append_and, BitVec.and_zero]
  cases b <;> rfl

/-- Bit 0 of the low part of a split offset. -/
theorem offX_split (o : BitVec 15) (b : Bool) :
    (offX o b).extractLsb' 0 11 &&& 1#11 = 0#10 ++ BitVec.ofBool b := by
  apply BitVec.eq_of_getLsbD_eq
  intro i hi
  rw [BitVec.getLsbD_and, BitVec.getLsbD_extractLsb', BitVec.getLsbD_append]
  by_cases h : i = 0
  · subst h
    have := offX_bit0 o b
    simpa using this
  · have h2 : ¬i < 1 := by omega
    have h3 : (1#11).getLsbD i = false := by simp [BitVec.getLsbD_one, h]
    simp [h2, h3]

/-- The size bits of a 32-bit access. -/
theorem offL_mask (o : BitVec 14) (a : Bool) : offL o a &&& 2#16 = 2#16 := by
  unfold offL
  have : (2#16 : BitVec 16) = 0#14 ++ 1#1 ++ 0#1 := rfl
  rw [this, append_and, append_and, BitVec.and_zero, BitVec.and_zero]
  rfl

/-- The size bits of a wider access. -/
theorem offW_mask (o : BitVec 13) (q a : Bool) : offW o q a &&& 6#16 = 0#13 ++ BitVec.ofBool q ++ 0#1 ++ 0#1 := by
  unfold offW
  have : (6#16 : BitVec 16) = 0#13 ++ 1#1 ++ 1#1 ++ 0#1 := rfl
  rw [this, append_and, append_and, append_and, BitVec.and_zero, BitVec.and_zero]
  cases q <;> rfl

end Sys2Proof.Laws

namespace Sys2Proof.Laws.TableMatch

/-- The bits that the row of spec/opcode_table.json fixes. -/
def mask : Instr → Word
  | .ldbR _ _ _ => 0xFC000000#32
  | .ldbI _ _ _ => 0xFC000000#32
  | .ldsR _ _ _ => 0xFC000001#32
  | .ldsI _ _ _ => 0xFC000001#32
  | .ldlR _ _ _ => 0xFC000001#32
  | .ldlI _ _ _ => 0xFC000001#32
  | .ixfr _ _ => 0xFC000000#32
  | .stb _ _ _ => 0xFC000000#32
  | .sts _ _ _ => 0xFC000001#32
  | .stl _ _ _ => 0xFC000001#32
  | .fldlR _ _ _ _ => 0xFC000002#32
  | .fldlI _ _ _ _ => 0xFC000002#32
  | .flddR _ _ _ _ => 0xFC000006#32
  | .flddI _ _ _ _ => 0xFC000006#32
  | .fldqR _ _ _ _ => 0xFC000006#32
  | .fldqI _ _ _ _ => 0xFC000006#32
  | .fstlR _ _ _ _ => 0xFC000002#32
  | .fstlI _ _ _ _ => 0xFC000002#32
  | .fstdR _ _ _ _ => 0xFC000006#32
  | .fstdI _ _ _ _ => 0xFC000006#32
  | .fstqR _ _ _ _ => 0xFC000006#32
  | .fstqI _ _ _ _ => 0xFC000006#32
  | .pfldlR _ _ _ _ => 0xFC000002#32
  | .pfldlI _ _ _ _ => 0xFC000002#32
  | .pflddR _ _ _ _ => 0xFC000006#32
  | .pflddI _ _ _ _ => 0xFC000006#32
  | .ldc _ _ => 0xFC000000#32
  | .flush _ _ _ => 0xFC000006#32
  | .stc _ _ => 0xFC000000#32
  | .pstd _ _ _ _ => 0xFC000006#32
  | .bri _ => 0xFC000000#32
  | .trap _ _ _ => 0xFC000000#32
  | .lock => 0xFC00001F#32
  | .calli _ => 0xFC00001F#32
  | .intovr => 0xFC00001F#32
  | .unlock => 0xFC00001F#32
  | .btneR _ _ _ => 0xFC000000#32
  | .btneI _ _ _ => 0xFC000000#32
  | .bteR _ _ _ => 0xFC000000#32
  | .bteI _ _ _ => 0xFC000000#32
  | .br _ => 0xFC000000#32
  | .call _ => 0xFC000000#32
  | .bc _ => 0xFC000000#32
  | .bcT _ => 0xFC000000#32
  | .bnc _ => 0xFC000000#32
  | .bncT _ => 0xFC000000#32
  | .adduR _ _ _ => 0xFC000000#32
  | .adduI _ _ _ => 0xFC000000#32
  | .subuR _ _ _ => 0xFC000000#32
  | .subuI _ _ _ => 0xFC000000#32
  | .addsR _ _ _ => 0xFC000000#32
  | .addsI _ _ _ => 0xFC000000#32
  | .subsR _ _ _ => 0xFC000000#32
  | .subsI _ _ _ => 0xFC000000#32
  | .shlR _ _ _ => 0xFC000000#32
  | .shlI _ _ _ => 0xFC000000#32
  | .shrR _ _ _ => 0xFC000000#32
  | .shrI _ _ _ => 0xFC000000#32
  | .shrd _ _ _ _ => 0xFC000000#32
  | .bla _ _ _ => 0xFC000000#32
  | .shraR _ _ _ => 0xFC000000#32
  | .shraI _ _ _ => 0xFC000000#32
  | .andR _ _ _ => 0xFC000000#32
  | .andI _ _ _ => 0xFC000000#32
  | .andh _ _ _ => 0xFC000000#32
  | .andnotR _ _ _ => 0xFC000000#32
  | .andnotI _ _ _ => 0xFC000000#32
  | .andnoth _ _ _ => 0xFC000000#32
  | .orR _ _ _ => 0xFC000000#32
  | .orI _ _ _ => 0xFC000000#32
  | .orh _ _ _ => 0xFC000000#32
  | .xorR _ _ _ => 0xFC000000#32
  | .xorI _ _ _ => 0xFC000000#32
  | .xorh _ _ _ => 0xFC000000#32
  | .pfamSs _ _ _ _ _ => 0xFC0005F0#32
  | .pfamSd _ _ _ _ _ => 0xFC0005F0#32
  | .pfamDd _ _ _ _ _ => 0xFC0005F0#32
  | .pfmamSs _ _ _ _ _ => 0xFC0005F0#32
  | .pfmamSd _ _ _ _ _ => 0xFC0005F0#32
  | .pfmamDd _ _ _ _ _ => 0xFC0005F0#32
  | .pfsmSs _ _ _ _ _ => 0xFC0005F0#32
  | .pfsmSd _ _ _ _ _ => 0xFC0005F0#32
  | .pfsmDd _ _ _ _ _ => 0xFC0005F0#32
  | .pfmsmSs _ _ _ _ _ => 0xFC0005F0#32
  | .pfmsmSd _ _ _ _ _ => 0xFC0005F0#32
  | .pfmsmDd _ _ _ _ _ => 0xFC0005F0#32
  | .fmulSs _ _ _ _ => 0xFC0005FF#32
  | .fmulSd _ _ _ _ => 0xFC0005FF#32
  | .fmulDd _ _ _ _ => 0xFC0005FF#32
  | .pfmulSs _ _ _ _ => 0xFC0005FF#32
  | .pfmulSd _ _ _ _ => 0xFC0005FF#32
  | .pfmulDd _ _ _ _ => 0xFC0005FF#32
  | .fmlowDd _ _ _ _ => 0xFC0005FF#32
  | .frcpSs _ _ _ => 0xFC0005FF#32
  | .frcpSd _ _ _ => 0xFC0005FF#32
  | .frcpDd _ _ _ => 0xFC0005FF#32
  | .frsqrSs _ _ _ => 0xFC0005FF#32
  | .frsqrSd _ _ _ => 0xFC0005FF#32
  | .frsqrDd _ _ _ => 0xFC0005FF#32
  | .pfmul3Dd _ _ _ _ => 0xFC0005FF#32
  | .faddSs _ _ _ _ => 0xFC0005FF#32
  | .faddSd _ _ _ _ => 0xFC0005FF#32
  | .faddDd _ _ _ _ => 0xFC0005FF#32
  | .pfaddSs _ _ _ _ => 0xFC0005FF#32
  | .pfaddSd _ _ _ _ => 0xFC0005FF#32
  | .pfaddDd _ _ _ _ => 0xFC0005FF#32
  | .fsubSs _ _ _ _ => 0xFC0005FF#32
  | .fsubSd _ _ _ _ => 0xFC0005FF#32
  | .fsubDd _ _ _ _ => 0xFC0005FF#32
  | .pfsubSs _ _ _ _ => 0xFC0005FF#32
  | .pfsubSd _ _ _ _ => 0xFC0005FF#32
  | .pfsubDd _ _ _ _ => 0xFC0005FF#32
  | .fixSs _ _ _ => 0xFC0005FF#32
  | .fixSd _ _ _ => 0xFC0005FF#32
  | .fixDd _ _ _ => 0xFC0005FF#32
  | .pfixSs _ _ _ => 0xFC0005FF#32
  | .pfixSd _ _ _ => 0xFC0005FF#32
  | .pfixDd _ _ _ => 0xFC0005FF#32
  | .famovSs _ _ _ => 0xFC0005FF#32
  | .famovSd _ _ _ => 0xFC0005FF#32
  | .famovDs _ _ _ => 0xFC0005FF#32
  | .famovDd _ _ _ => 0xFC0005FF#32
  | .pfamovSs _ _ _ => 0xFC0005FF#32
  | .pfamovSd _ _ _ => 0xFC0005FF#32
  | .pfamovDs _ _ _ => 0xFC0005FF#32
  | .pfamovDd _ _ _ => 0xFC0005FF#32
  | .pfgtSs _ _ _ _ => 0xFC0005FF#32
  | .pfgtDd _ _ _ _ => 0xFC0005FF#32
  | .pfleSs _ _ _ _ => 0xFC0005FF#32
  | .pfleDd _ _ _ _ => 0xFC0005FF#32
  | .pfeqSs _ _ _ _ => 0xFC00057F#32
  | .pfeqDd _ _ _ _ => 0xFC00057F#32
  | .ftruncSs _ _ _ => 0xFC0005FF#32
  | .ftruncSd _ _ _ => 0xFC0005FF#32
  | .ftruncDd _ _ _ => 0xFC0005FF#32
  | .pftruncSs _ _ _ => 0xFC0005FF#32
  | .pftruncSd _ _ _ => 0xFC0005FF#32
  | .pftruncDd _ _ _ => 0xFC0005FF#32
  | .fxfr _ _ _ => 0xFC00047F#32
  | .fiaddSs _ _ _ _ => 0xFC0005FF#32
  | .fiaddDd _ _ _ _ => 0xFC0005FF#32
  | .pfiaddSs _ _ _ _ => 0xFC0005FF#32
  | .pfiaddDd _ _ _ _ => 0xFC0005FF#32
  | .fisubSs _ _ _ _ => 0xFC0005FF#32
  | .fisubDd _ _ _ _ => 0xFC0005FF#32
  | .pfisubSs _ _ _ _ => 0xFC0005FF#32
  | .pfisubDd _ _ _ _ => 0xFC0005FF#32
  | .faddp _ _ _ _ => 0xFC00047F#32
  | .pfaddp _ _ _ _ => 0xFC00047F#32
  | .faddz _ _ _ _ => 0xFC00047F#32
  | .pfaddz _ _ _ _ => 0xFC00047F#32
  | .fzchkl _ _ _ _ => 0xFC00047F#32
  | .pfzchkl _ _ _ _ => 0xFC00047F#32
  | .form _ _ _ => 0xFC00047F#32
  | .pform _ _ _ => 0xFC00047F#32
  | .fzchks _ _ _ _ => 0xFC00047F#32
  | .pfzchks _ _ _ _ => 0xFC00047F#32
  | .mov _ _ => 0xFC00F800#32
  | .nop => 0xFFFFF800#32
  | .fnop _ => 0xFFFFF800#32
  | .fmovSs _ _ _ => 0xFFE005FF#32
  | .fmovDd _ _ _ => 0xFFE005FF#32
  | .fmovSd _ _ _ => 0xFC0005FF#32
  | .fmovDs _ _ _ => 0xFC0005FF#32
  | .pfmovSs _ _ _ => 0xFFE005FF#32
  | .pfmovDd _ _ _ => 0xFFE005FF#32
  | .pfmovSd _ _ _ => 0xFC0005FF#32
  | .pfmovDs _ _ _ => 0xFC0005FF#32

/-- The values of those bits. -/
def pattern : Instr → Word
  | .ldbR _ _ _ => 0x00000000#32
  | .ldbI _ _ _ => 0x04000000#32
  | .ldsR _ _ _ => 0x10000000#32
  | .ldsI _ _ _ => 0x14000000#32
  | .ldlR _ _ _ => 0x10000001#32
  | .ldlI _ _ _ => 0x14000001#32
  | .ixfr _ _ => 0x08000000#32
  | .stb _ _ _ => 0x0C000000#32
  | .sts _ _ _ => 0x1C000000#32
  | .stl _ _ _ => 0x1C000001#32
  | .fldlR _ _ _ _ => 0x20000002#32
  | .fldlI _ _ _ _ => 0x24000002#32
  | .flddR _ _ _ _ => 0x20000000#32
  | .flddI _ _ _ _ => 0x24000000#32
  | .fldqR _ _ _ _ => 0x20000004#32
  | .fldqI _ _ _ _ => 0x24000004#32
  | .fstlR _ _ _ _ => 0x28000002#32
  | .fstlI _ _ _ _ => 0x2C000002#32
  | .fstdR _ _ _ _ => 0x28000000#32
  | .fstdI _ _ _ _ => 0x2C000000#32
  | .fstqR _ _ _ _ => 0x28000004#32
  | .fstqI _ _ _ _ => 0x2C000004#32
  | .pfldlR _ _ _ _ => 0x60000002#32
  | .pfldlI _ _ _ _ => 0x64000002#32
  | .pflddR _ _ _ _ => 0x60000000#32
  | .pflddI _ _ _ _ => 0x64000000#32
  | .ldc _ _ => 0x30000000#32
  | .flush _ _ _ => 0x34000000#32
  | .stc _ _ => 0x38000000#32
  | .pstd _ _ _ _ => 0x3C000000#32
  | .bri _ => 0x40000000#32
  | .trap _ _ _ => 0x44000000#32
  | .lock => 0x4C000001#32
  | .calli _ => 0x4C000002#32
  | .intovr => 0x4C000004#32
  | .unlock => 0x4C000007#32
  | .btneR _ _ _ => 0x50000000#32
  | .btneI _ _ _ => 0x54000000#32
  | .bteR _ _ _ => 0x58000000#32
  | .bteI _ _ _ => 0x5C000000#32
  | .br _ => 0x68000000#32
  | .call _ => 0x6C000000#32
  | .bc _ => 0x70000000#32
  | .bcT _ => 0x74000000#32
  | .bnc _ => 0x78000000#32
  | .bncT _ => 0x7C000000#32
  | .adduR _ _ _ => 0x80000000#32
  | .adduI _ _ _ => 0x84000000#32
  | .subuR _ _ _ => 0x88000000#32
  | .subuI _ _ _ => 0x8C000000#32
  | .addsR _ _ _ => 0x90000000#32
  | .addsI _ _ _ => 0x94000000#32
  | .subsR _ _ _ => 0x98000000#32
  | .subsI _ _ _ => 0x9C000000#32
  | .shlR _ _ _ => 0xA0000000#32
  | .shlI _ _ _ => 0xA4000000#32
  | .shrR _ _ _ => 0xA8000000#32
  | .shrI _ _ _ => 0xAC000000#32
  | .shrd _ _ _ _ => 0xB0000000#32
  | .bla _ _ _ => 0xB4000000#32
  | .shraR _ _ _ => 0xB8000000#32
  | .shraI _ _ _ => 0xBC000000#32
  | .andR _ _ _ => 0xC0000000#32
  | .andI _ _ _ => 0xC4000000#32
  | .andh _ _ _ => 0xCC000000#32
  | .andnotR _ _ _ => 0xD0000000#32
  | .andnotI _ _ _ => 0xD4000000#32
  | .andnoth _ _ _ => 0xDC000000#32
  | .orR _ _ _ => 0xE0000000#32
  | .orI _ _ _ => 0xE4000000#32
  | .orh _ _ _ => 0xEC000000#32
  | .xorR _ _ _ => 0xF0000000#32
  | .xorI _ _ _ => 0xF4000000#32
  | .xorh _ _ _ => 0xFC000000#32
  | .pfamSs _ _ _ _ _ => 0x48000400#32
  | .pfamSd _ _ _ _ _ => 0x48000480#32
  | .pfamDd _ _ _ _ _ => 0x48000580#32
  | .pfmamSs _ _ _ _ _ => 0x48000000#32
  | .pfmamSd _ _ _ _ _ => 0x48000080#32
  | .pfmamDd _ _ _ _ _ => 0x48000180#32
  | .pfsmSs _ _ _ _ _ => 0x48000410#32
  | .pfsmSd _ _ _ _ _ => 0x48000490#32
  | .pfsmDd _ _ _ _ _ => 0x48000590#32
  | .pfmsmSs _ _ _ _ _ => 0x48000010#32
  | .pfmsmSd _ _ _ _ _ => 0x48000090#32
  | .pfmsmDd _ _ _ _ _ => 0x48000190#32
  | .fmulSs _ _ _ _ => 0x48000020#32
  | .fmulSd _ _ _ _ => 0x480000A0#32
  | .fmulDd _ _ _ _ => 0x480001A0#32
  | .pfmulSs _ _ _ _ => 0x48000420#32
  | .pfmulSd _ _ _ _ => 0x480004A0#32
  | .pfmulDd _ _ _ _ => 0x480005A0#32
  | .fmlowDd _ _ _ _ => 0x480001A1#32
  | .frcpSs _ _ _ => 0x48000022#32
  | .frcpSd _ _ _ => 0x480000A2#32
  | .frcpDd _ _ _ => 0x480001A2#32
  | .frsqrSs _ _ _ => 0x48000023#32
  | .frsqrSd _ _ _ => 0x480000A3#32
  | .frsqrDd _ _ _ => 0x480001A3#32
  | .pfmul3Dd _ _ _ _ => 0x480005A4#32
  | .faddSs _ _ _ _ => 0x48000030#32
  | .faddSd _ _ _ _ => 0x480000B0#32
  | .faddDd _ _ _ _ => 0x480001B0#32
  | .pfaddSs _ _ _ _ => 0x48000430#32
  | .pfaddSd _ _ _ _ => 0x480004B0#32
  | .pfaddDd _ _ _ _ => 0x480005B0#32
  | .fsubSs _ _ _ _ => 0x48000031#32
  | .fsubSd _ _ _ _ => 0x480000B1#32
  | .fsubDd _ _ _ _ => 0x480001B1#32
  | .pfsubSs _ _ _ _ => 0x48000431#32
  | .pfsubSd _ _ _ _ => 0x480004B1#32
  | .pfsubDd _ _ _ _ => 0x480005B1#32
  | .fixSs _ _ _ => 0x48000032#32
  | .fixSd _ _ _ => 0x480000B2#32
  | .fixDd _ _ _ => 0x480001B2#32
  | .pfixSs _ _ _ => 0x48000432#32
  | .pfixSd _ _ _ => 0x480004B2#32
  | .pfixDd _ _ _ => 0x480005B2#32
  | .famovSs _ _ _ => 0x48000033#32
  | .famovSd _ _ _ => 0x480000B3#32
  | .famovDs _ _ _ => 0x48000133#32
  | .famovDd _ _ _ => 0x480001B3#32
  | .pfamovSs _ _ _ => 0x48000433#32
  | .pfamovSd _ _ _ => 0x480004B3#32
  | .pfamovDs _ _ _ => 0x48000533#32
  | .pfamovDd _ _ _ => 0x480005B3#32
  | .pfgtSs _ _ _ _ => 0x48000434#32
  | .pfgtDd _ _ _ _ => 0x48000534#32
  | .pfleSs _ _ _ _ => 0x480004B4#32
  | .pfleDd _ _ _ _ => 0x480005B4#32
  | .pfeqSs _ _ _ _ => 0x48000435#32
  | .pfeqDd _ _ _ _ => 0x48000535#32
  | .ftruncSs _ _ _ => 0x4800003A#32
  | .ftruncSd _ _ _ => 0x480000BA#32
  | .ftruncDd _ _ _ => 0x480001BA#32
  | .pftruncSs _ _ _ => 0x4800043A#32
  | .pftruncSd _ _ _ => 0x480004BA#32
  | .pftruncDd _ _ _ => 0x480005BA#32
  | .fxfr _ _ _ => 0x48000040#32
  | .fiaddSs _ _ _ _ => 0x48000049#32
  | .fiaddDd _ _ _ _ => 0x480001C9#32
  | .pfiaddSs _ _ _ _ => 0x48000449#32
  | .pfiaddDd _ _ _ _ => 0x480005C9#32
  | .fisubSs _ _ _ _ => 0x4800004D#32
  | .fisubDd _ _ _ _ => 0x480001CD#32
  | .pfisubSs _ _ _ _ => 0x4800044D#32
  | .pfisubDd _ _ _ _ => 0x480005CD#32
  | .faddp _ _ _ _ => 0x48000050#32
  | .pfaddp _ _ _ _ => 0x48000450#32
  | .faddz _ _ _ _ => 0x48000051#32
  | .pfaddz _ _ _ _ => 0x48000451#32
  | .fzchkl _ _ _ _ => 0x48000057#32
  | .pfzchkl _ _ _ _ => 0x48000457#32
  | .form _ _ _ => 0x4800005A#32
  | .pform _ _ _ => 0x4800045A#32
  | .fzchks _ _ _ _ => 0x4800005F#32
  | .pfzchks _ _ _ _ => 0x4800045F#32
  | .mov _ _ => 0xA0000000#32
  | .nop => 0xA0000000#32
  | .fnop _ => 0xB0000000#32
  | .fmovSs _ _ _ => 0x48000049#32
  | .fmovDd _ _ _ => 0x480001C9#32
  | .fmovSd _ _ _ => 0x480000B3#32
  | .fmovDs _ _ _ => 0x48000133#32
  | .pfmovSs _ _ _ => 0x48000449#32
  | .pfmovDd _ _ _ => 0x480005C9#32
  | .pfmovSd _ _ _ => 0x480004B3#32
  | .pfmovDs _ _ _ => 0x48000533#32

/-- The word of the instruction has the fixed bits of its row. -/
def Statement (i : Instr) : Prop := encode i &&& mask i = pattern i

theorem ldbR (src1 : Reg) (src2 : Reg) (dest : Reg) : Statement (.ldbR src1 src2 dest) := by
  refine (regWord_mask _ _ _ _ 0#5 0#5 _ 0#11).trans ?_
  rw [BitVec.and_zero, BitVec.and_zero]
  rfl
theorem ldbI (off : BitVec 16) (src2 : Reg) (dest : Reg) : Statement (.ldbI off src2 dest) := by
  refine (immWord_mask _ _ _ _ 0#16).trans ?_
  rw [BitVec.and_zero]
  rfl
theorem ldsR (src1 : Reg) (src2 : Reg) (dest : Reg) : Statement (.ldsR src1 src2 dest) := by
  refine (regWord_mask _ _ _ _ 0#5 0#5 _ 1#11).trans ?_
  rw [BitVec.and_zero, BitVec.and_zero]
  rfl
theorem ldsI (off : BitVec 15) (src2 : Reg) (dest : Reg) : Statement (.ldsI off src2 dest) := by
  refine (immWord_mask _ _ _ _ 1#16).trans ?_
  rw [offX_mask]
  rfl
theorem ldlR (src1 : Reg) (src2 : Reg) (dest : Reg) : Statement (.ldlR src1 src2 dest) := by
  refine (regWord_mask _ _ _ _ 0#5 0#5 _ 1#11).trans ?_
  rw [BitVec.and_zero, BitVec.and_zero]
  rfl
theorem ldlI (off : BitVec 15) (src2 : Reg) (dest : Reg) : Statement (.ldlI off src2 dest) := by
  refine (immWord_mask _ _ _ _ 1#16).trans ?_
  rw [offX_mask]
  rfl
theorem ixfr (src1 : Reg) (dest : Reg) : Statement (.ixfr src1 dest) := by
  refine (regWord_mask _ _ _ _ 0#5 0#5 _ 0#11).trans ?_
  rw [BitVec.and_zero, BitVec.and_zero]
  rfl
theorem stb (src1 : Reg) (off : BitVec 16) (src2 : Reg) : Statement (.stb src1 off src2) := by
  refine (splitWord_mask _ _ _ _ 0#11).trans ?_
  rw [BitVec.and_zero]
  rfl
theorem sts (src1 : Reg) (off : BitVec 15) (src2 : Reg) : Statement (.sts src1 off src2) := by
  refine (splitWord_mask _ _ _ _ 1#11).trans ?_
  rw [offX_split]
  rfl
theorem stl (src1 : Reg) (off : BitVec 15) (src2 : Reg) : Statement (.stl src1 off src2) := by
  refine (splitWord_mask _ _ _ _ 1#11).trans ?_
  rw [offX_split]
  rfl
theorem fldlR (auto : Bool) (src1 : Reg) (src2 : Reg) (dest : Reg) : Statement (.fldlR auto src1 src2 dest) := by
  refine (regWord_mask _ _ _ _ 0#5 0#5 _ 2#11).trans ?_
  cases auto <;> rw [BitVec.and_zero, BitVec.and_zero] <;> rfl
theorem fldlI (auto : Bool) (off : BitVec 14) (src2 : Reg) (dest : Reg) : Statement (.fldlI auto off src2 dest) := by
  refine (immWord_mask _ _ _ _ 2#16).trans ?_
  rw [offL_mask]
  rfl
theorem flddR (auto : Bool) (src1 : Reg) (src2 : Reg) (dest : Reg) : Statement (.flddR auto src1 src2 dest) := by
  refine (regWord_mask _ _ _ _ 0#5 0#5 _ 6#11).trans ?_
  cases auto <;> rw [BitVec.and_zero, BitVec.and_zero] <;> rfl
theorem flddI (auto : Bool) (off : BitVec 13) (src2 : Reg) (dest : Reg) : Statement (.flddI auto off src2 dest) := by
  refine (immWord_mask _ _ _ _ 6#16).trans ?_
  rw [offW_mask]
  rfl
theorem fldqR (auto : Bool) (src1 : Reg) (src2 : Reg) (dest : Reg) : Statement (.fldqR auto src1 src2 dest) := by
  refine (regWord_mask _ _ _ _ 0#5 0#5 _ 6#11).trans ?_
  cases auto <;> rw [BitVec.and_zero, BitVec.and_zero] <;> rfl
theorem fldqI (auto : Bool) (off : BitVec 13) (src2 : Reg) (dest : Reg) : Statement (.fldqI auto off src2 dest) := by
  refine (immWord_mask _ _ _ _ 6#16).trans ?_
  rw [offW_mask]
  rfl
theorem fstlR (auto : Bool) (src1 : Reg) (src2 : Reg) (dest : Reg) : Statement (.fstlR auto src1 src2 dest) := by
  refine (regWord_mask _ _ _ _ 0#5 0#5 _ 2#11).trans ?_
  cases auto <;> rw [BitVec.and_zero, BitVec.and_zero] <;> rfl
theorem fstlI (auto : Bool) (off : BitVec 14) (src2 : Reg) (dest : Reg) : Statement (.fstlI auto off src2 dest) := by
  refine (immWord_mask _ _ _ _ 2#16).trans ?_
  rw [offL_mask]
  rfl
theorem fstdR (auto : Bool) (src1 : Reg) (src2 : Reg) (dest : Reg) : Statement (.fstdR auto src1 src2 dest) := by
  refine (regWord_mask _ _ _ _ 0#5 0#5 _ 6#11).trans ?_
  cases auto <;> rw [BitVec.and_zero, BitVec.and_zero] <;> rfl
theorem fstdI (auto : Bool) (off : BitVec 13) (src2 : Reg) (dest : Reg) : Statement (.fstdI auto off src2 dest) := by
  refine (immWord_mask _ _ _ _ 6#16).trans ?_
  rw [offW_mask]
  rfl
theorem fstqR (auto : Bool) (src1 : Reg) (src2 : Reg) (dest : Reg) : Statement (.fstqR auto src1 src2 dest) := by
  refine (regWord_mask _ _ _ _ 0#5 0#5 _ 6#11).trans ?_
  cases auto <;> rw [BitVec.and_zero, BitVec.and_zero] <;> rfl
theorem fstqI (auto : Bool) (off : BitVec 13) (src2 : Reg) (dest : Reg) : Statement (.fstqI auto off src2 dest) := by
  refine (immWord_mask _ _ _ _ 6#16).trans ?_
  rw [offW_mask]
  rfl
theorem pfldlR (auto : Bool) (src1 : Reg) (src2 : Reg) (dest : Reg) : Statement (.pfldlR auto src1 src2 dest) := by
  refine (regWord_mask _ _ _ _ 0#5 0#5 _ 2#11).trans ?_
  cases auto <;> rw [BitVec.and_zero, BitVec.and_zero] <;> rfl
theorem pfldlI (auto : Bool) (off : BitVec 14) (src2 : Reg) (dest : Reg) : Statement (.pfldlI auto off src2 dest) := by
  refine (immWord_mask _ _ _ _ 2#16).trans ?_
  rw [offL_mask]
  rfl
theorem pflddR (auto : Bool) (src1 : Reg) (src2 : Reg) (dest : Reg) : Statement (.pflddR auto src1 src2 dest) := by
  refine (regWord_mask _ _ _ _ 0#5 0#5 _ 6#11).trans ?_
  cases auto <;> rw [BitVec.and_zero, BitVec.and_zero] <;> rfl
theorem pflddI (auto : Bool) (off : BitVec 13) (src2 : Reg) (dest : Reg) : Statement (.pflddI auto off src2 dest) := by
  refine (immWord_mask _ _ _ _ 6#16).trans ?_
  rw [offW_mask]
  rfl
theorem ldc (csrc : CReg) (dest : Reg) : Statement (.ldc csrc dest) := by
  refine (regWord_mask _ _ _ _ 0#5 0#5 _ 0#11).trans ?_
  rw [BitVec.and_zero, BitVec.and_zero]
  rfl
theorem flush (auto : Bool) (off : BitVec 13) (src2 : Reg) : Statement (.flush auto off src2) := by
  refine (immWord_mask _ _ _ _ 6#16).trans ?_
  rw [offW_mask]
  rfl
theorem stc (src1 : Reg) (csrc : CReg) : Statement (.stc src1 csrc) := by
  refine (regWord_mask _ _ _ _ 0#5 0#5 _ 0#11).trans ?_
  rw [BitVec.and_zero, BitVec.and_zero]
  rfl
theorem pstd (auto : Bool) (off : BitVec 13) (src2 : Reg) (dest : Reg) : Statement (.pstd auto off src2 dest) := by
  refine (immWord_mask _ _ _ _ 6#16).trans ?_
  rw [offW_mask]
  rfl
theorem bri (src1 : Reg) : Statement (.bri src1) := by
  refine (regWord_mask _ _ _ _ 0#5 0#5 _ 0#11).trans ?_
  rw [BitVec.and_zero, BitVec.and_zero]
  rfl
theorem trap (src1 : Reg) (src2 : Reg) (dest : Reg) : Statement (.trap src1 src2 dest) := by
  refine (regWord_mask _ _ _ _ 0#5 0#5 _ 0#11).trans ?_
  rw [BitVec.and_zero, BitVec.and_zero]
  rfl
theorem lock : Statement (.lock) := rfl
theorem calli (src1 : Reg) : Statement (.calli src1) := by
  refine (regWord_mask _ _ _ _ 0#5 0#5 _ 31#11).trans ?_
  rw [BitVec.and_zero, BitVec.and_zero]
  rfl
theorem intovr : Statement (.intovr) := rfl
theorem unlock : Statement (.unlock) := rfl
theorem btneR (src1 : Reg) (src2 : Reg) (off : BitVec 16) : Statement (.btneR src1 src2 off) := by
  refine (splitWord_mask _ _ _ _ 0#11).trans ?_
  rw [BitVec.and_zero]
  rfl
theorem btneI (imm : BitVec 5) (src2 : Reg) (off : BitVec 16) : Statement (.btneI imm src2 off) := by
  refine (splitWord_mask _ _ _ _ 0#11).trans ?_
  rw [BitVec.and_zero]
  rfl
theorem bteR (src1 : Reg) (src2 : Reg) (off : BitVec 16) : Statement (.bteR src1 src2 off) := by
  refine (splitWord_mask _ _ _ _ 0#11).trans ?_
  rw [BitVec.and_zero]
  rfl
theorem bteI (imm : BitVec 5) (src2 : Reg) (off : BitVec 16) : Statement (.bteI imm src2 off) := by
  refine (splitWord_mask _ _ _ _ 0#11).trans ?_
  rw [BitVec.and_zero]
  rfl
theorem br (off : BitVec 26) : Statement (.br off) := ctrlWord_mask _ _
theorem call (off : BitVec 26) : Statement (.call off) := ctrlWord_mask _ _
theorem bc (off : BitVec 26) : Statement (.bc off) := ctrlWord_mask _ _
theorem bcT (off : BitVec 26) : Statement (.bcT off) := ctrlWord_mask _ _
theorem bnc (off : BitVec 26) : Statement (.bnc off) := ctrlWord_mask _ _
theorem bncT (off : BitVec 26) : Statement (.bncT off) := ctrlWord_mask _ _
theorem adduR (src1 : Reg) (src2 : Reg) (dest : Reg) : Statement (.adduR src1 src2 dest) := by
  refine (regWord_mask _ _ _ _ 0#5 0#5 _ 0#11).trans ?_
  rw [BitVec.and_zero, BitVec.and_zero]
  rfl
theorem adduI (imm : BitVec 16) (src2 : Reg) (dest : Reg) : Statement (.adduI imm src2 dest) := by
  refine (immWord_mask _ _ _ _ 0#16).trans ?_
  rw [BitVec.and_zero]
  rfl
theorem subuR (src1 : Reg) (src2 : Reg) (dest : Reg) : Statement (.subuR src1 src2 dest) := by
  refine (regWord_mask _ _ _ _ 0#5 0#5 _ 0#11).trans ?_
  rw [BitVec.and_zero, BitVec.and_zero]
  rfl
theorem subuI (imm : BitVec 16) (src2 : Reg) (dest : Reg) : Statement (.subuI imm src2 dest) := by
  refine (immWord_mask _ _ _ _ 0#16).trans ?_
  rw [BitVec.and_zero]
  rfl
theorem addsR (src1 : Reg) (src2 : Reg) (dest : Reg) : Statement (.addsR src1 src2 dest) := by
  refine (regWord_mask _ _ _ _ 0#5 0#5 _ 0#11).trans ?_
  rw [BitVec.and_zero, BitVec.and_zero]
  rfl
theorem addsI (imm : BitVec 16) (src2 : Reg) (dest : Reg) : Statement (.addsI imm src2 dest) := by
  refine (immWord_mask _ _ _ _ 0#16).trans ?_
  rw [BitVec.and_zero]
  rfl
theorem subsR (src1 : Reg) (src2 : Reg) (dest : Reg) : Statement (.subsR src1 src2 dest) := by
  refine (regWord_mask _ _ _ _ 0#5 0#5 _ 0#11).trans ?_
  rw [BitVec.and_zero, BitVec.and_zero]
  rfl
theorem subsI (imm : BitVec 16) (src2 : Reg) (dest : Reg) : Statement (.subsI imm src2 dest) := by
  refine (immWord_mask _ _ _ _ 0#16).trans ?_
  rw [BitVec.and_zero]
  rfl
theorem shlR (src1 : Reg) (src2 : Reg) (dest : Reg) : Statement (.shlR src1 src2 dest) := by
  refine (regWord_mask _ _ _ _ 0#5 0#5 _ 0#11).trans ?_
  rw [BitVec.and_zero, BitVec.and_zero]
  rfl
theorem shlI (imm : BitVec 16) (src2 : Reg) (dest : Reg) : Statement (.shlI imm src2 dest) := by
  refine (immWord_mask _ _ _ _ 0#16).trans ?_
  rw [BitVec.and_zero]
  rfl
theorem shrR (src1 : Reg) (src2 : Reg) (dest : Reg) : Statement (.shrR src1 src2 dest) := by
  refine (regWord_mask _ _ _ _ 0#5 0#5 _ 0#11).trans ?_
  rw [BitVec.and_zero, BitVec.and_zero]
  rfl
theorem shrI (imm : BitVec 16) (src2 : Reg) (dest : Reg) : Statement (.shrI imm src2 dest) := by
  refine (immWord_mask _ _ _ _ 0#16).trans ?_
  rw [BitVec.and_zero]
  rfl
theorem shrd (d : Bool) (src1 : Reg) (src2 : Reg) (dest : Reg) : Statement (.shrd d src1 src2 dest) := by
  refine (regWord_mask _ _ _ _ 0#5 0#5 _ 0#11).trans ?_
  rw [BitVec.and_zero, BitVec.and_zero, BitVec.and_zero]
  rfl
theorem bla (src1 : Reg) (src2 : Reg) (off : BitVec 16) : Statement (.bla src1 src2 off) := by
  refine (splitWord_mask _ _ _ _ 0#11).trans ?_
  rw [BitVec.and_zero]
  rfl
theorem shraR (src1 : Reg) (src2 : Reg) (dest : Reg) : Statement (.shraR src1 src2 dest) := by
  refine (regWord_mask _ _ _ _ 0#5 0#5 _ 0#11).trans ?_
  rw [BitVec.and_zero, BitVec.and_zero]
  rfl
theorem shraI (imm : BitVec 16) (src2 : Reg) (dest : Reg) : Statement (.shraI imm src2 dest) := by
  refine (immWord_mask _ _ _ _ 0#16).trans ?_
  rw [BitVec.and_zero]
  rfl
theorem andR (src1 : Reg) (src2 : Reg) (dest : Reg) : Statement (.andR src1 src2 dest) := by
  refine (regWord_mask _ _ _ _ 0#5 0#5 _ 0#11).trans ?_
  rw [BitVec.and_zero, BitVec.and_zero]
  rfl
theorem andI (imm : BitVec 16) (src2 : Reg) (dest : Reg) : Statement (.andI imm src2 dest) := by
  refine (immWord_mask _ _ _ _ 0#16).trans ?_
  rw [BitVec.and_zero]
  rfl
theorem andh (imm : BitVec 16) (src2 : Reg) (dest : Reg) : Statement (.andh imm src2 dest) := by
  refine (immWord_mask _ _ _ _ 0#16).trans ?_
  rw [BitVec.and_zero]
  rfl
theorem andnotR (src1 : Reg) (src2 : Reg) (dest : Reg) : Statement (.andnotR src1 src2 dest) := by
  refine (regWord_mask _ _ _ _ 0#5 0#5 _ 0#11).trans ?_
  rw [BitVec.and_zero, BitVec.and_zero]
  rfl
theorem andnotI (imm : BitVec 16) (src2 : Reg) (dest : Reg) : Statement (.andnotI imm src2 dest) := by
  refine (immWord_mask _ _ _ _ 0#16).trans ?_
  rw [BitVec.and_zero]
  rfl
theorem andnoth (imm : BitVec 16) (src2 : Reg) (dest : Reg) : Statement (.andnoth imm src2 dest) := by
  refine (immWord_mask _ _ _ _ 0#16).trans ?_
  rw [BitVec.and_zero]
  rfl
theorem orR (src1 : Reg) (src2 : Reg) (dest : Reg) : Statement (.orR src1 src2 dest) := by
  refine (regWord_mask _ _ _ _ 0#5 0#5 _ 0#11).trans ?_
  rw [BitVec.and_zero, BitVec.and_zero]
  rfl
theorem orI (imm : BitVec 16) (src2 : Reg) (dest : Reg) : Statement (.orI imm src2 dest) := by
  refine (immWord_mask _ _ _ _ 0#16).trans ?_
  rw [BitVec.and_zero]
  rfl
theorem orh (imm : BitVec 16) (src2 : Reg) (dest : Reg) : Statement (.orh imm src2 dest) := by
  refine (immWord_mask _ _ _ _ 0#16).trans ?_
  rw [BitVec.and_zero]
  rfl
theorem xorR (src1 : Reg) (src2 : Reg) (dest : Reg) : Statement (.xorR src1 src2 dest) := by
  refine (regWord_mask _ _ _ _ 0#5 0#5 _ 0#11).trans ?_
  rw [BitVec.and_zero, BitVec.and_zero]
  rfl
theorem xorI (imm : BitVec 16) (src2 : Reg) (dest : Reg) : Statement (.xorI imm src2 dest) := by
  refine (immWord_mask _ _ _ _ 0#16).trans ?_
  rw [BitVec.and_zero]
  rfl
theorem xorh (imm : BitVec 16) (src2 : Reg) (dest : Reg) : Statement (.xorh imm src2 dest) := by
  refine (immWord_mask _ _ _ _ 0#16).trans ?_
  rw [BitVec.and_zero]
  rfl
theorem pfamSs (dpc : BitVec 4) (d : Bool) (src1 : Reg) (src2 : Reg) (dest : Reg) : Statement (.pfamSs dpc d src1 src2 dest) := by
  refine (fpWord_mask _ _ _ 0#5 _ _ _ _ true true _ 112#7).trans ?_
  rw [BitVec.and_zero, dual_mask]
  rfl
theorem pfamSd (dpc : BitVec 4) (d : Bool) (src1 : Reg) (src2 : Reg) (dest : Reg) : Statement (.pfamSd dpc d src1 src2 dest) := by
  refine (fpWord_mask _ _ _ 0#5 _ _ _ _ true true _ 112#7).trans ?_
  rw [BitVec.and_zero, dual_mask]
  rfl
theorem pfamDd (dpc : BitVec 4) (d : Bool) (src1 : Reg) (src2 : Reg) (dest : Reg) : Statement (.pfamDd dpc d src1 src2 dest) := by
  refine (fpWord_mask _ _ _ 0#5 _ _ _ _ true true _ 112#7).trans ?_
  rw [BitVec.and_zero, dual_mask]
  rfl
theorem pfmamSs (dpc : BitVec 4) (d : Bool) (src1 : Reg) (src2 : Reg) (dest : Reg) : Statement (.pfmamSs dpc d src1 src2 dest) := by
  refine (fpWord_mask _ _ _ 0#5 _ _ _ _ true true _ 112#7).trans ?_
  rw [BitVec.and_zero, dual_mask]
  rfl
theorem pfmamSd (dpc : BitVec 4) (d : Bool) (src1 : Reg) (src2 : Reg) (dest : Reg) : Statement (.pfmamSd dpc d src1 src2 dest) := by
  refine (fpWord_mask _ _ _ 0#5 _ _ _ _ true true _ 112#7).trans ?_
  rw [BitVec.and_zero, dual_mask]
  rfl
theorem pfmamDd (dpc : BitVec 4) (d : Bool) (src1 : Reg) (src2 : Reg) (dest : Reg) : Statement (.pfmamDd dpc d src1 src2 dest) := by
  refine (fpWord_mask _ _ _ 0#5 _ _ _ _ true true _ 112#7).trans ?_
  rw [BitVec.and_zero, dual_mask]
  rfl
theorem pfsmSs (dpc : BitVec 4) (d : Bool) (src1 : Reg) (src2 : Reg) (dest : Reg) : Statement (.pfsmSs dpc d src1 src2 dest) := by
  refine (fpWord_mask _ _ _ 0#5 _ _ _ _ true true _ 112#7).trans ?_
  rw [BitVec.and_zero, dual_mask]
  rfl
theorem pfsmSd (dpc : BitVec 4) (d : Bool) (src1 : Reg) (src2 : Reg) (dest : Reg) : Statement (.pfsmSd dpc d src1 src2 dest) := by
  refine (fpWord_mask _ _ _ 0#5 _ _ _ _ true true _ 112#7).trans ?_
  rw [BitVec.and_zero, dual_mask]
  rfl
theorem pfsmDd (dpc : BitVec 4) (d : Bool) (src1 : Reg) (src2 : Reg) (dest : Reg) : Statement (.pfsmDd dpc d src1 src2 dest) := by
  refine (fpWord_mask _ _ _ 0#5 _ _ _ _ true true _ 112#7).trans ?_
  rw [BitVec.and_zero, dual_mask]
  rfl
theorem pfmsmSs (dpc : BitVec 4) (d : Bool) (src1 : Reg) (src2 : Reg) (dest : Reg) : Statement (.pfmsmSs dpc d src1 src2 dest) := by
  refine (fpWord_mask _ _ _ 0#5 _ _ _ _ true true _ 112#7).trans ?_
  rw [BitVec.and_zero, dual_mask]
  rfl
theorem pfmsmSd (dpc : BitVec 4) (d : Bool) (src1 : Reg) (src2 : Reg) (dest : Reg) : Statement (.pfmsmSd dpc d src1 src2 dest) := by
  refine (fpWord_mask _ _ _ 0#5 _ _ _ _ true true _ 112#7).trans ?_
  rw [BitVec.and_zero, dual_mask]
  rfl
theorem pfmsmDd (dpc : BitVec 4) (d : Bool) (src1 : Reg) (src2 : Reg) (dest : Reg) : Statement (.pfmsmDd dpc d src1 src2 dest) := by
  refine (fpWord_mask _ _ _ 0#5 _ _ _ _ true true _ 112#7).trans ?_
  rw [BitVec.and_zero, dual_mask]
  rfl
theorem fmulSs (d : Bool) (src1 : Reg) (src2 : Reg) (dest : Reg) : Statement (.fmulSs d src1 src2 dest) := by
  refine (fpWord_mask _ _ _ 0#5 _ _ _ _ true true _ 127#7).trans ?_
  rw [BitVec.and_zero]
  rfl
theorem fmulSd (d : Bool) (src1 : Reg) (src2 : Reg) (dest : Reg) : Statement (.fmulSd d src1 src2 dest) := by
  refine (fpWord_mask _ _ _ 0#5 _ _ _ _ true true _ 127#7).trans ?_
  rw [BitVec.and_zero]
  rfl
theorem fmulDd (d : Bool) (src1 : Reg) (src2 : Reg) (dest : Reg) : Statement (.fmulDd d src1 src2 dest) := by
  refine (fpWord_mask _ _ _ 0#5 _ _ _ _ true true _ 127#7).trans ?_
  rw [BitVec.and_zero]
  rfl
theorem pfmulSs (d : Bool) (src1 : Reg) (src2 : Reg) (dest : Reg) : Statement (.pfmulSs d src1 src2 dest) := by
  refine (fpWord_mask _ _ _ 0#5 _ _ _ _ true true _ 127#7).trans ?_
  rw [BitVec.and_zero]
  rfl
theorem pfmulSd (d : Bool) (src1 : Reg) (src2 : Reg) (dest : Reg) : Statement (.pfmulSd d src1 src2 dest) := by
  refine (fpWord_mask _ _ _ 0#5 _ _ _ _ true true _ 127#7).trans ?_
  rw [BitVec.and_zero]
  rfl
theorem pfmulDd (d : Bool) (src1 : Reg) (src2 : Reg) (dest : Reg) : Statement (.pfmulDd d src1 src2 dest) := by
  refine (fpWord_mask _ _ _ 0#5 _ _ _ _ true true _ 127#7).trans ?_
  rw [BitVec.and_zero]
  rfl
theorem fmlowDd (d : Bool) (src1 : Reg) (src2 : Reg) (dest : Reg) : Statement (.fmlowDd d src1 src2 dest) := by
  refine (fpWord_mask _ _ _ 0#5 _ _ _ _ true true _ 127#7).trans ?_
  rw [BitVec.and_zero]
  rfl
theorem frcpSs (d : Bool) (src2 : Reg) (dest : Reg) : Statement (.frcpSs d src2 dest) := by
  refine (fpWord_mask _ _ _ 0#5 _ _ _ _ true true _ 127#7).trans ?_
  rw [BitVec.and_zero]
  rfl
theorem frcpSd (d : Bool) (src2 : Reg) (dest : Reg) : Statement (.frcpSd d src2 dest) := by
  refine (fpWord_mask _ _ _ 0#5 _ _ _ _ true true _ 127#7).trans ?_
  rw [BitVec.and_zero]
  rfl
theorem frcpDd (d : Bool) (src2 : Reg) (dest : Reg) : Statement (.frcpDd d src2 dest) := by
  refine (fpWord_mask _ _ _ 0#5 _ _ _ _ true true _ 127#7).trans ?_
  rw [BitVec.and_zero]
  rfl
theorem frsqrSs (d : Bool) (src2 : Reg) (dest : Reg) : Statement (.frsqrSs d src2 dest) := by
  refine (fpWord_mask _ _ _ 0#5 _ _ _ _ true true _ 127#7).trans ?_
  rw [BitVec.and_zero]
  rfl
theorem frsqrSd (d : Bool) (src2 : Reg) (dest : Reg) : Statement (.frsqrSd d src2 dest) := by
  refine (fpWord_mask _ _ _ 0#5 _ _ _ _ true true _ 127#7).trans ?_
  rw [BitVec.and_zero]
  rfl
theorem frsqrDd (d : Bool) (src2 : Reg) (dest : Reg) : Statement (.frsqrDd d src2 dest) := by
  refine (fpWord_mask _ _ _ 0#5 _ _ _ _ true true _ 127#7).trans ?_
  rw [BitVec.and_zero]
  rfl
theorem pfmul3Dd (d : Bool) (src1 : Reg) (src2 : Reg) (dest : Reg) : Statement (.pfmul3Dd d src1 src2 dest) := by
  refine (fpWord_mask _ _ _ 0#5 _ _ _ _ true true _ 127#7).trans ?_
  rw [BitVec.and_zero]
  rfl
theorem faddSs (d : Bool) (src1 : Reg) (src2 : Reg) (dest : Reg) : Statement (.faddSs d src1 src2 dest) := by
  refine (fpWord_mask _ _ _ 0#5 _ _ _ _ true true _ 127#7).trans ?_
  rw [BitVec.and_zero]
  rfl
theorem faddSd (d : Bool) (src1 : Reg) (src2 : Reg) (dest : Reg) : Statement (.faddSd d src1 src2 dest) := by
  refine (fpWord_mask _ _ _ 0#5 _ _ _ _ true true _ 127#7).trans ?_
  rw [BitVec.and_zero]
  rfl
theorem faddDd (d : Bool) (src1 : Reg) (src2 : Reg) (dest : Reg) : Statement (.faddDd d src1 src2 dest) := by
  refine (fpWord_mask _ _ _ 0#5 _ _ _ _ true true _ 127#7).trans ?_
  rw [BitVec.and_zero]
  rfl
theorem pfaddSs (d : Bool) (src1 : Reg) (src2 : Reg) (dest : Reg) : Statement (.pfaddSs d src1 src2 dest) := by
  refine (fpWord_mask _ _ _ 0#5 _ _ _ _ true true _ 127#7).trans ?_
  rw [BitVec.and_zero]
  rfl
theorem pfaddSd (d : Bool) (src1 : Reg) (src2 : Reg) (dest : Reg) : Statement (.pfaddSd d src1 src2 dest) := by
  refine (fpWord_mask _ _ _ 0#5 _ _ _ _ true true _ 127#7).trans ?_
  rw [BitVec.and_zero]
  rfl
theorem pfaddDd (d : Bool) (src1 : Reg) (src2 : Reg) (dest : Reg) : Statement (.pfaddDd d src1 src2 dest) := by
  refine (fpWord_mask _ _ _ 0#5 _ _ _ _ true true _ 127#7).trans ?_
  rw [BitVec.and_zero]
  rfl
theorem fsubSs (d : Bool) (src1 : Reg) (src2 : Reg) (dest : Reg) : Statement (.fsubSs d src1 src2 dest) := by
  refine (fpWord_mask _ _ _ 0#5 _ _ _ _ true true _ 127#7).trans ?_
  rw [BitVec.and_zero]
  rfl
theorem fsubSd (d : Bool) (src1 : Reg) (src2 : Reg) (dest : Reg) : Statement (.fsubSd d src1 src2 dest) := by
  refine (fpWord_mask _ _ _ 0#5 _ _ _ _ true true _ 127#7).trans ?_
  rw [BitVec.and_zero]
  rfl
theorem fsubDd (d : Bool) (src1 : Reg) (src2 : Reg) (dest : Reg) : Statement (.fsubDd d src1 src2 dest) := by
  refine (fpWord_mask _ _ _ 0#5 _ _ _ _ true true _ 127#7).trans ?_
  rw [BitVec.and_zero]
  rfl
theorem pfsubSs (d : Bool) (src1 : Reg) (src2 : Reg) (dest : Reg) : Statement (.pfsubSs d src1 src2 dest) := by
  refine (fpWord_mask _ _ _ 0#5 _ _ _ _ true true _ 127#7).trans ?_
  rw [BitVec.and_zero]
  rfl
theorem pfsubSd (d : Bool) (src1 : Reg) (src2 : Reg) (dest : Reg) : Statement (.pfsubSd d src1 src2 dest) := by
  refine (fpWord_mask _ _ _ 0#5 _ _ _ _ true true _ 127#7).trans ?_
  rw [BitVec.and_zero]
  rfl
theorem pfsubDd (d : Bool) (src1 : Reg) (src2 : Reg) (dest : Reg) : Statement (.pfsubDd d src1 src2 dest) := by
  refine (fpWord_mask _ _ _ 0#5 _ _ _ _ true true _ 127#7).trans ?_
  rw [BitVec.and_zero]
  rfl
theorem fixSs (d : Bool) (src1 : Reg) (dest : Reg) : Statement (.fixSs d src1 dest) := by
  refine (fpWord_mask _ _ _ 0#5 _ _ _ _ true true _ 127#7).trans ?_
  rfl
theorem fixSd (d : Bool) (src1 : Reg) (dest : Reg) : Statement (.fixSd d src1 dest) := by
  refine (fpWord_mask _ _ _ 0#5 _ _ _ _ true true _ 127#7).trans ?_
  rfl
theorem fixDd (d : Bool) (src1 : Reg) (dest : Reg) : Statement (.fixDd d src1 dest) := by
  refine (fpWord_mask _ _ _ 0#5 _ _ _ _ true true _ 127#7).trans ?_
  rfl
theorem pfixSs (d : Bool) (src1 : Reg) (dest : Reg) : Statement (.pfixSs d src1 dest) := by
  refine (fpWord_mask _ _ _ 0#5 _ _ _ _ true true _ 127#7).trans ?_
  rfl
theorem pfixSd (d : Bool) (src1 : Reg) (dest : Reg) : Statement (.pfixSd d src1 dest) := by
  refine (fpWord_mask _ _ _ 0#5 _ _ _ _ true true _ 127#7).trans ?_
  rfl
theorem pfixDd (d : Bool) (src1 : Reg) (dest : Reg) : Statement (.pfixDd d src1 dest) := by
  refine (fpWord_mask _ _ _ 0#5 _ _ _ _ true true _ 127#7).trans ?_
  rfl
theorem famovSs (d : Bool) (src1 : Reg) (dest : Reg) : Statement (.famovSs d src1 dest) := by
  refine (fpWord_mask _ _ _ 0#5 _ _ _ _ true true _ 127#7).trans ?_
  rfl
theorem famovSd (d : Bool) (src1 : Reg) (dest : Reg) : Statement (.famovSd d src1 dest) := by
  refine (fpWord_mask _ _ _ 0#5 _ _ _ _ true true _ 127#7).trans ?_
  rfl
theorem famovDs (d : Bool) (src1 : Reg) (dest : Reg) : Statement (.famovDs d src1 dest) := by
  refine (fpWord_mask _ _ _ 0#5 _ _ _ _ true true _ 127#7).trans ?_
  rfl
theorem famovDd (d : Bool) (src1 : Reg) (dest : Reg) : Statement (.famovDd d src1 dest) := by
  refine (fpWord_mask _ _ _ 0#5 _ _ _ _ true true _ 127#7).trans ?_
  rfl
theorem pfamovSs (d : Bool) (src1 : Reg) (dest : Reg) : Statement (.pfamovSs d src1 dest) := by
  refine (fpWord_mask _ _ _ 0#5 _ _ _ _ true true _ 127#7).trans ?_
  rfl
theorem pfamovSd (d : Bool) (src1 : Reg) (dest : Reg) : Statement (.pfamovSd d src1 dest) := by
  refine (fpWord_mask _ _ _ 0#5 _ _ _ _ true true _ 127#7).trans ?_
  rfl
theorem pfamovDs (d : Bool) (src1 : Reg) (dest : Reg) : Statement (.pfamovDs d src1 dest) := by
  refine (fpWord_mask _ _ _ 0#5 _ _ _ _ true true _ 127#7).trans ?_
  rfl
theorem pfamovDd (d : Bool) (src1 : Reg) (dest : Reg) : Statement (.pfamovDd d src1 dest) := by
  refine (fpWord_mask _ _ _ 0#5 _ _ _ _ true true _ 127#7).trans ?_
  rfl
theorem pfgtSs (d : Bool) (src1 : Reg) (src2 : Reg) (dest : Reg) : Statement (.pfgtSs d src1 src2 dest) := by
  refine (fpWord_mask _ _ _ 0#5 _ _ _ _ true true _ 127#7).trans ?_
  rw [BitVec.and_zero]
  rfl
theorem pfgtDd (d : Bool) (src1 : Reg) (src2 : Reg) (dest : Reg) : Statement (.pfgtDd d src1 src2 dest) := by
  refine (fpWord_mask _ _ _ 0#5 _ _ _ _ true true _ 127#7).trans ?_
  rw [BitVec.and_zero]
  rfl
theorem pfleSs (d : Bool) (src1 : Reg) (src2 : Reg) (dest : Reg) : Statement (.pfleSs d src1 src2 dest) := by
  refine (fpWord_mask _ _ _ 0#5 _ _ _ _ true true _ 127#7).trans ?_
  rw [BitVec.and_zero]
  rfl
theorem pfleDd (d : Bool) (src1 : Reg) (src2 : Reg) (dest : Reg) : Statement (.pfleDd d src1 src2 dest) := by
  refine (fpWord_mask _ _ _ 0#5 _ _ _ _ true true _ 127#7).trans ?_
  rw [BitVec.and_zero]
  rfl
theorem pfeqSs (d : Bool) (src1 : Reg) (src2 : Reg) (dest : Reg) : Statement (.pfeqSs d src1 src2 dest) := by
  refine (fpWord_mask _ _ _ 0#5 _ _ _ _ true false _ 127#7).trans ?_
  rw [BitVec.and_zero]
  rfl
theorem pfeqDd (d : Bool) (src1 : Reg) (src2 : Reg) (dest : Reg) : Statement (.pfeqDd d src1 src2 dest) := by
  refine (fpWord_mask _ _ _ 0#5 _ _ _ _ true false _ 127#7).trans ?_
  rw [BitVec.and_zero]
  rfl
theorem ftruncSs (d : Bool) (src1 : Reg) (dest : Reg) : Statement (.ftruncSs d src1 dest) := by
  refine (fpWord_mask _ _ _ 0#5 _ _ _ _ true true _ 127#7).trans ?_
  rfl
theorem ftruncSd (d : Bool) (src1 : Reg) (dest : Reg) : Statement (.ftruncSd d src1 dest) := by
  refine (fpWord_mask _ _ _ 0#5 _ _ _ _ true true _ 127#7).trans ?_
  rfl
theorem ftruncDd (d : Bool) (src1 : Reg) (dest : Reg) : Statement (.ftruncDd d src1 dest) := by
  refine (fpWord_mask _ _ _ 0#5 _ _ _ _ true true _ 127#7).trans ?_
  rfl
theorem pftruncSs (d : Bool) (src1 : Reg) (dest : Reg) : Statement (.pftruncSs d src1 dest) := by
  refine (fpWord_mask _ _ _ 0#5 _ _ _ _ true true _ 127#7).trans ?_
  rfl
theorem pftruncSd (d : Bool) (src1 : Reg) (dest : Reg) : Statement (.pftruncSd d src1 dest) := by
  refine (fpWord_mask _ _ _ 0#5 _ _ _ _ true true _ 127#7).trans ?_
  rfl
theorem pftruncDd (d : Bool) (src1 : Reg) (dest : Reg) : Statement (.pftruncDd d src1 dest) := by
  refine (fpWord_mask _ _ _ 0#5 _ _ _ _ true true _ 127#7).trans ?_
  rfl
theorem fxfr (d : Bool) (src1 : Reg) (dest : Reg) : Statement (.fxfr d src1 dest) := by
  refine (fpWord_mask _ _ _ 0#5 _ _ _ _ false false _ 127#7).trans ?_
  rfl
theorem fiaddSs (d : Bool) (src1 : Reg) (src2 : Reg) (dest : Reg) : Statement (.fiaddSs d src1 src2 dest) := by
  refine (fpWord_mask _ _ _ 0#5 _ _ _ _ true true _ 127#7).trans ?_
  rw [BitVec.and_zero]
  rfl
theorem fiaddDd (d : Bool) (src1 : Reg) (src2 : Reg) (dest : Reg) : Statement (.fiaddDd d src1 src2 dest) := by
  refine (fpWord_mask _ _ _ 0#5 _ _ _ _ true true _ 127#7).trans ?_
  rw [BitVec.and_zero]
  rfl
theorem pfiaddSs (d : Bool) (src1 : Reg) (src2 : Reg) (dest : Reg) : Statement (.pfiaddSs d src1 src2 dest) := by
  refine (fpWord_mask _ _ _ 0#5 _ _ _ _ true true _ 127#7).trans ?_
  rw [BitVec.and_zero]
  rfl
theorem pfiaddDd (d : Bool) (src1 : Reg) (src2 : Reg) (dest : Reg) : Statement (.pfiaddDd d src1 src2 dest) := by
  refine (fpWord_mask _ _ _ 0#5 _ _ _ _ true true _ 127#7).trans ?_
  rw [BitVec.and_zero]
  rfl
theorem fisubSs (d : Bool) (src1 : Reg) (src2 : Reg) (dest : Reg) : Statement (.fisubSs d src1 src2 dest) := by
  refine (fpWord_mask _ _ _ 0#5 _ _ _ _ true true _ 127#7).trans ?_
  rw [BitVec.and_zero]
  rfl
theorem fisubDd (d : Bool) (src1 : Reg) (src2 : Reg) (dest : Reg) : Statement (.fisubDd d src1 src2 dest) := by
  refine (fpWord_mask _ _ _ 0#5 _ _ _ _ true true _ 127#7).trans ?_
  rw [BitVec.and_zero]
  rfl
theorem pfisubSs (d : Bool) (src1 : Reg) (src2 : Reg) (dest : Reg) : Statement (.pfisubSs d src1 src2 dest) := by
  refine (fpWord_mask _ _ _ 0#5 _ _ _ _ true true _ 127#7).trans ?_
  rw [BitVec.and_zero]
  rfl
theorem pfisubDd (d : Bool) (src1 : Reg) (src2 : Reg) (dest : Reg) : Statement (.pfisubDd d src1 src2 dest) := by
  refine (fpWord_mask _ _ _ 0#5 _ _ _ _ true true _ 127#7).trans ?_
  rw [BitVec.and_zero]
  rfl
theorem faddp (d : Bool) (src1 : Reg) (src2 : Reg) (dest : Reg) : Statement (.faddp d src1 src2 dest) := by
  refine (fpWord_mask _ _ _ 0#5 _ _ _ _ false false _ 127#7).trans ?_
  rw [BitVec.and_zero]
  rfl
theorem pfaddp (d : Bool) (src1 : Reg) (src2 : Reg) (dest : Reg) : Statement (.pfaddp d src1 src2 dest) := by
  refine (fpWord_mask _ _ _ 0#5 _ _ _ _ false false _ 127#7).trans ?_
  rw [BitVec.and_zero]
  rfl
theorem faddz (d : Bool) (src1 : Reg) (src2 : Reg) (dest : Reg) : Statement (.faddz d src1 src2 dest) := by
  refine (fpWord_mask _ _ _ 0#5 _ _ _ _ false false _ 127#7).trans ?_
  rw [BitVec.and_zero]
  rfl
theorem pfaddz (d : Bool) (src1 : Reg) (src2 : Reg) (dest : Reg) : Statement (.pfaddz d src1 src2 dest) := by
  refine (fpWord_mask _ _ _ 0#5 _ _ _ _ false false _ 127#7).trans ?_
  rw [BitVec.and_zero]
  rfl
theorem fzchkl (d : Bool) (src1 : Reg) (src2 : Reg) (dest : Reg) : Statement (.fzchkl d src1 src2 dest) := by
  refine (fpWord_mask _ _ _ 0#5 _ _ _ _ false false _ 127#7).trans ?_
  rw [BitVec.and_zero]
  rfl
theorem pfzchkl (d : Bool) (src1 : Reg) (src2 : Reg) (dest : Reg) : Statement (.pfzchkl d src1 src2 dest) := by
  refine (fpWord_mask _ _ _ 0#5 _ _ _ _ false false _ 127#7).trans ?_
  rw [BitVec.and_zero]
  rfl
theorem form (d : Bool) (src1 : Reg) (dest : Reg) : Statement (.form d src1 dest) := by
  refine (fpWord_mask _ _ _ 0#5 _ _ _ _ false false _ 127#7).trans ?_
  rfl
theorem pform (d : Bool) (src1 : Reg) (dest : Reg) : Statement (.pform d src1 dest) := by
  refine (fpWord_mask _ _ _ 0#5 _ _ _ _ false false _ 127#7).trans ?_
  rfl
theorem fzchks (d : Bool) (src1 : Reg) (src2 : Reg) (dest : Reg) : Statement (.fzchks d src1 src2 dest) := by
  refine (fpWord_mask _ _ _ 0#5 _ _ _ _ false false _ 127#7).trans ?_
  rw [BitVec.and_zero]
  rfl
theorem pfzchks (d : Bool) (src1 : Reg) (src2 : Reg) (dest : Reg) : Statement (.pfzchks d src1 src2 dest) := by
  refine (fpWord_mask _ _ _ 0#5 _ _ _ _ false false _ 127#7).trans ?_
  rw [BitVec.and_zero]
  rfl
theorem mov (src2 : Reg) (dest : Reg) : Statement (.mov src2 dest) := by
  refine (regWord_mask _ _ _ _ 0#5 31#5 _ 0#11).trans ?_
  rw [BitVec.and_zero, BitVec.and_zero]
  rfl
theorem nop : Statement (.nop) := rfl
theorem fnop (d : Bool) : Statement (.fnop d) := by
  cases d <;> rfl
theorem fmovSs (d : Bool) (src1 : Reg) (dest : Reg) : Statement (.fmovSs d src1 dest) := by
  refine (fpWord_mask _ _ _ 31#5 _ _ _ _ true true _ 127#7).trans ?_
  rfl
theorem fmovDd (d : Bool) (src1 : Reg) (dest : Reg) : Statement (.fmovDd d src1 dest) := by
  refine (fpWord_mask _ _ _ 31#5 _ _ _ _ true true _ 127#7).trans ?_
  rfl
theorem fmovSd (d : Bool) (src1 : Reg) (dest : Reg) : Statement (.fmovSd d src1 dest) := by
  refine (fpWord_mask _ _ _ 0#5 _ _ _ _ true true _ 127#7).trans ?_
  rfl
theorem fmovDs (d : Bool) (src1 : Reg) (dest : Reg) : Statement (.fmovDs d src1 dest) := by
  refine (fpWord_mask _ _ _ 0#5 _ _ _ _ true true _ 127#7).trans ?_
  rfl
theorem pfmovSs (d : Bool) (src1 : Reg) (dest : Reg) : Statement (.pfmovSs d src1 dest) := by
  refine (fpWord_mask _ _ _ 31#5 _ _ _ _ true true _ 127#7).trans ?_
  rfl
theorem pfmovDd (d : Bool) (src1 : Reg) (dest : Reg) : Statement (.pfmovDd d src1 dest) := by
  refine (fpWord_mask _ _ _ 31#5 _ _ _ _ true true _ 127#7).trans ?_
  rfl
theorem pfmovSd (d : Bool) (src1 : Reg) (dest : Reg) : Statement (.pfmovSd d src1 dest) := by
  refine (fpWord_mask _ _ _ 0#5 _ _ _ _ true true _ 127#7).trans ?_
  rfl
theorem pfmovDs (d : Bool) (src1 : Reg) (dest : Reg) : Statement (.pfmovDs d src1 dest) := by
  refine (fpWord_mask _ _ _ 0#5 _ _ _ _ true true _ 127#7).trans ?_
  rfl

end Sys2Proof.Laws.TableMatch
end

