-- ==== Sys2Proof/Tests/Slice0.lean ====
section
/-!
SUPPORT. Tests of the model: what the well-formedness checks refuse, words of the spec's encodings, one-step vectors of
spec/95_test_vectors.md, and a witness for every statement that has hypotheses.
-/
open Sys2Proof Sys2Proof.Machine

namespace Sys2Proof.Tests
set_option Elab.async false

/-! ## Ill-formed instructions -/

/-- Data-path control 1111 (R329). -/
theorem test_wellFormed_refuses_dpc15 :
    (Instr.pfmamSs 15 false 4 12 0).WellFormed = false ∧ (Instr.pfmamSd 15 false 4 12 0).WellFormed = false ∧
    (Instr.pfmamDd 15 false 4 12 0).WellFormed = false ∧ (Instr.pfmsmSs 15 false 4 12 0).WellFormed = false ∧
    (Instr.pfmsmSd 15 false 4 12 0).WellFormed = false ∧ (Instr.pfmsmDd 15 false 4 12 0).WellFormed = false := by decide
/-- The same code is assigned for pfam and pfsm (R328). -/
theorem test_wellFormed_admits_dpc15 :
    (Instr.pfamSs 15 false 4 12 0).WellFormed = true ∧ (Instr.pfsmDd 15 false 4 12 0).WellFormed = true := by decide

/-! ## Words and their instructions, written out from the tables of spec/30_encoding.md -/

/-- Each word decodes to its instruction, or to what a pseudo-operation stands for, and is its encoding. -/
def spells (l : List (Nat × Instr)) : Bool :=
  l.all fun p => decide (decodeTableWord 32 p.1 = some p.2.expand) && decide (encode p.2 = BitVec.ofNat 32 p.1)

/-- Words of the source's own listings (spec/95_test_vectors.md §1.2 to §2.10). -/
theorem test_decode_source_words :
  spells [
    (0xA2380000, .mov 17 24), (0x480003C9, .fiaddDd true 0 0 0), (0xB0000200, .fnop true),
    (0xB780D802, .bla 27 28 2), (0x67000009, .pflddI true 1 24 0), (0x27A80015, .fldqI true 2 29 8),
    (0x49802609, .pfamSs 9 true 4 12 0), (0xB79FDFF2, .bla 27 28 0xFFF2), (0x2E560007, .fstlI true 1 18 22),
    (0x7FFFFFDC, .bncT 0x3FFFFDC), (0x1CBF37FD, .stl 6 0x7FFE 5), (0xDC8400C0, .andnoth 0xC0 4 4)] = true := by
  decide +kernel

/-- Words of the integer loads and stores, transfers between the files. -/
theorem test_decode_loads_and_stores :
  spells [
    (0x01542800, .ldbR 5 10 20), (0x05549A69, .ldbI 0x9A69 10 20), (0x11542800, .ldsR 5 10 20),
    (0x15549A68, .ldsI 0x4D34 10 20), (0x11542801, .ldlR 5 10 20), (0x15549A69, .ldlI 0x4D34 10 20),
    (0x08142800, .ixfr 5 20), (0x0D532A69, .stb 5 0x9A69 10), (0x1D532A68, .sts 5 0x4D34 10),
    (0x1D532A69, .stl 5 0x4D34 10), (0x48142A40, .fxfr true 5 20)] = true := by
  decide +kernel

/-- Words of the floating loads and stores, pixel store, flush. -/
theorem test_decode_floating_loads_and_stores :
  spells [
    (0x21542803, .fldlR true 5 10 20), (0x25549A6B, .fldlI true 0x269A 10 20), (0x21542801, .flddR true 5 10 20),
    (0x25549A69, .flddI true 0x134D 10 20), (0x21542805, .fldqR true 5 10 20),
    (0x25549A6D, .fldqI true 0x134D 10 20), (0x29542803, .fstlR true 5 10 20),
    (0x2D549A6B, .fstlI true 0x269A 10 20), (0x29542801, .fstdR true 5 10 20),
    (0x2D549A69, .fstdI true 0x134D 10 20), (0x29542805, .fstqR true 5 10 20),
    (0x2D549A6D, .fstqI true 0x134D 10 20), (0x61542803, .pfldlR true 5 10 20),
    (0x65549A6B, .pfldlI true 0x269A 10 20), (0x61542801, .pflddR true 5 10 20),
    (0x65549A69, .pflddI true 0x134D 10 20), (0x35409A69, .flush true 0x134D 10),
    (0x3D549A69, .pstd true 0x134D 10 20)] = true := by
  decide +kernel

/-- Words of the integer arithmetic and shifts. -/
theorem test_decode_arithmetic :
  spells [
    (0x81542800, .adduR 5 10 20), (0x85548ABC, .adduI 0x8ABC 10 20), (0x89542800, .subuR 5 10 20),
    (0x8D548ABC, .subuI 0x8ABC 10 20), (0x91542800, .addsR 5 10 20), (0x95548ABC, .addsI 0x8ABC 10 20),
    (0x99542800, .subsR 5 10 20), (0x9D548ABC, .subsI 0x8ABC 10 20), (0xA1542800, .shlR 5 10 20),
    (0xA5548ABC, .shlI 0x8ABC 10 20), (0xA9542800, .shrR 5 10 20), (0xAD548ABC, .shrI 0x8ABC 10 20),
    (0xB1542A00, .shrd true 5 10 20), (0xB9542800, .shraR 5 10 20), (0xBD548ABC, .shraI 0x8ABC 10 20)] = true := by
  decide +kernel

/-- Words of the logical instructions. -/
theorem test_decode_logical :
  spells [
    (0xC1542800, .andR 5 10 20), (0xC5548ABC, .andI 0x8ABC 10 20), (0xCD548ABC, .andh 0x8ABC 10 20),
    (0xD1542800, .andnotR 5 10 20), (0xD5548ABC, .andnotI 0x8ABC 10 20), (0xDD548ABC, .andnoth 0x8ABC 10 20),
    (0xE1542800, .orR 5 10 20), (0xE5548ABC, .orI 0x8ABC 10 20), (0xED548ABC, .orh 0x8ABC 10 20),
    (0xF1542800, .xorR 5 10 20), (0xF5548ABC, .xorI 0x8ABC 10 20), (0xFD548ABC, .xorh 0x8ABC 10 20)] = true := by
  decide +kernel

/-- Words of the control transfers. -/
theorem test_decode_control_transfers :
  spells [
    (0x40002800, .bri 5), (0x4C002802, .calli 5), (0x51532A69, .btneR 5 10 0x9A69),
    (0x5553AA69, .btneI 21 10 0x9A69), (0x59532A69, .bteR 5 10 0x9A69), (0x5D53AA69, .bteI 21 10 0x9A69),
    (0x6AABCDEF, .br 0x2ABCDEF), (0x6EABCDEF, .call 0x2ABCDEF), (0x72ABCDEF, .bc 0x2ABCDEF),
    (0x76ABCDEF, .bcT 0x2ABCDEF), (0x7AABCDEF, .bnc 0x2ABCDEF), (0x7EABCDEF, .bncT 0x2ABCDEF),
    (0xB5532A69, .bla 5 10 0x9A69)] = true := by
  decide +kernel

/-- Words of the system instructions. -/
theorem test_decode_system :
  spells [
    (0x30740000, .ldc .db 20), (0x38602800, .stc 5 .db), (0x45542800, .trap 5 10 20), (0x4C000001, .lock),
    (0x4C000004, .intovr), (0x4C000007, .unlock)] = true := by
  decide +kernel

/-- Words of the scalar floating point. -/
theorem test_decode_scalar_fp :
  spells [
    (0x49542A20, .fmulSs true 5 10 20), (0x49542AA0, .fmulSd true 5 10 20), (0x49542BA0, .fmulDd true 5 10 20),
    (0x49542BA1, .fmlowDd true 5 10 20), (0x49540222, .frcpSs true 10 20), (0x495402A2, .frcpSd true 10 20),
    (0x495403A2, .frcpDd true 10 20), (0x49540223, .frsqrSs true 10 20), (0x495402A3, .frsqrSd true 10 20),
    (0x495403A3, .frsqrDd true 10 20), (0x49542A30, .faddSs true 5 10 20), (0x49542AB0, .faddSd true 5 10 20),
    (0x49542BB0, .faddDd true 5 10 20), (0x49542A31, .fsubSs true 5 10 20), (0x49542AB1, .fsubSd true 5 10 20),
    (0x49542BB1, .fsubDd true 5 10 20), (0x48142A32, .fixSs true 5 20), (0x48142AB2, .fixSd true 5 20),
    (0x48142BB2, .fixDd true 5 20), (0x48142A33, .famovSs true 5 20), (0x48142AB3, .famovSd true 5 20),
    (0x48142B33, .famovDs true 5 20), (0x48142BB3, .famovDd true 5 20), (0x48142A3A, .ftruncSs true 5 20),
    (0x48142ABA, .ftruncSd true 5 20), (0x48142BBA, .ftruncDd true 5 20)] = true := by
  decide +kernel

/-- Words of the pipelined floating point. -/
theorem test_decode_pipelined_fp :
  spells [
    (0x49542E20, .pfmulSs true 5 10 20), (0x49542EA0, .pfmulSd true 5 10 20), (0x49542FA0, .pfmulDd true 5 10 20),
    (0x49542FA4, .pfmul3Dd true 5 10 20), (0x49542E30, .pfaddSs true 5 10 20), (0x49542EB0, .pfaddSd true 5 10 20),
    (0x49542FB0, .pfaddDd true 5 10 20), (0x49542E31, .pfsubSs true 5 10 20), (0x49542EB1, .pfsubSd true 5 10 20),
    (0x49542FB1, .pfsubDd true 5 10 20), (0x48142E32, .pfixSs true 5 20), (0x48142EB2, .pfixSd true 5 20),
    (0x48142FB2, .pfixDd true 5 20), (0x48142E33, .pfamovSs true 5 20), (0x48142EB3, .pfamovSd true 5 20),
    (0x48142F33, .pfamovDs true 5 20), (0x48142FB3, .pfamovDd true 5 20), (0x49542E34, .pfgtSs true 5 10 20),
    (0x49542F34, .pfgtDd true 5 10 20), (0x49542EB4, .pfleSs true 5 10 20), (0x49542FB4, .pfleDd true 5 10 20),
    (0x49542E35, .pfeqSs true 5 10 20), (0x49542FB5, .pfeqDd true 5 10 20), (0x48142E3A, .pftruncSs true 5 20),
    (0x48142EBA, .pftruncSd true 5 20), (0x48142FBA, .pftruncDd true 5 20)] = true := by
  decide +kernel

/-- Words of the dual operations. -/
theorem test_decode_dual_operations :
  spells [
    (0x49542E09, .pfamSs 9 true 5 10 20), (0x49542E89, .pfamSd 9 true 5 10 20), (0x49542F89, .pfamDd 9 true 5 10 20),
    (0x49542A09, .pfmamSs 9 true 5 10 20), (0x49542A89, .pfmamSd 9 true 5 10 20),
    (0x49542B89, .pfmamDd 9 true 5 10 20), (0x49542E19, .pfsmSs 9 true 5 10 20),
    (0x49542E99, .pfsmSd 9 true 5 10 20), (0x49542F99, .pfsmDd 9 true 5 10 20),
    (0x49542A19, .pfmsmSs 9 true 5 10 20), (0x49542A99, .pfmsmSd 9 true 5 10 20),
    (0x49542B99, .pfmsmDd 9 true 5 10 20)] = true := by
  decide +kernel

/-- Words of the graphics instructions. -/
theorem test_decode_graphics :
  spells [
    (0x49542A49, .fiaddSs true 5 10 20), (0x49542BC9, .fiaddDd true 5 10 20), (0x49542E49, .pfiaddSs true 5 10 20),
    (0x49542FC9, .pfiaddDd true 5 10 20), (0x49542A4D, .fisubSs true 5 10 20), (0x49542BCD, .fisubDd true 5 10 20),
    (0x49542E4D, .pfisubSs true 5 10 20), (0x49542FCD, .pfisubDd true 5 10 20), (0x49542BD0, .faddp true 5 10 20),
    (0x49542FD0, .pfaddp true 5 10 20), (0x49542BD1, .faddz true 5 10 20), (0x49542FD1, .pfaddz true 5 10 20),
    (0x49542BD7, .fzchkl true 5 10 20), (0x49542FD7, .pfzchkl true 5 10 20), (0x48142BDA, .form true 5 20),
    (0x48142FDA, .pform true 5 20), (0x49542BDF, .fzchks true 5 10 20), (0x49542FDF, .pfzchks true 5 10 20)] = true := by
  decide +kernel

/-- Words of the pseudo-operations, whose words decode to the machine instruction. -/
theorem test_decode_pseudo :
  spells [
    (0xA1540000, .mov 10 20), (0xA0000000, .nop), (0xB0000200, .fnop true), (0x48142A49, .fmovSs true 5 20),
    (0x48142BC9, .fmovDd true 5 20), (0x48142AB3, .fmovSd true 5 20), (0x48142B33, .fmovDs true 5 20),
    (0x48142E49, .pfmovSs true 5 20), (0x48142FC9, .pfmovDd true 5 20), (0x48142EB3, .pfmovSd true 5 20),
    (0x48142F33, .pfmovDs true 5 20)] = true := by
  decide +kernel

/-! ## Steps of the spec's own vectors (spec/95_test_vectors.md section 2, start states and results as its rows give
them) -/

/-- A start state at 0x1000 with some integer and floating-point registers set. -/
def start (rs fs : List (Reg × Word)) : State :=
  fs.foldl (fun s p => s.setFS p.1 p.2) (rs.foldl (fun s p => s.setR p.1 p.2) { State.reset with pc := 0x1000 })

/-- The state after one step that executes a word. -/
def after (w : Nat) (s : State) : Option State :=
  match step (s.withFetchWord 32 w) with
  | .next t => some t
  | _ => none

/-- What a step that executes a word leaves of a part of the state. -/
def leaves {α : Type} (w : Nat) (s : State) (part : State → α) : Option α := (after w s).map part

/-- Why a step that executes a word is refused. -/
def refusal (w : Nat) (s : State) : Option Refusal :=
  match step (s.withFetchWord 32 w) with
  | .refused r => some r
  | _ => none

/-- A register, CC and OF. -/
def sumOf (i : Reg) (t : State) : Word × Bool × Bool := (t.R i, t.psr.cc, t.epsr.of)

/-- A register and CC. -/
def bitsOf (i : Reg) (t : State) : Word × Bool := (t.R i, t.psr.cc)

/-- pc and the pending target. -/
def path (t : State) : Word × Option Word := (t.pc, t.delay)

/-- Bytes of memory from an address on. -/
def bytesAt (a n : Nat) (t : State) : List Byte := (List.range n).map fun k => Memory.get t.mem (a + k)

/-- §2.1: a sum that overflows, and one that is exact although its 32-bit result is zero. -/
theorem test_adds :
    leaves 0x90C72800 (start [(5, 0x7FFFFFFF), (6, 1)] []) (sumOf 7) = some (0x80000000, false, true) ∧
    leaves 0x9610FFFF (start [] []) (sumOf 16) = some (0xFFFFFFFF, true, false) := by decide +kernel
theorem test_addu :
    leaves 0x80C72800 (start [(5, 0x7FFFFFFF), (6, 1)] []) (sumOf 7) = some (0x80000000, false, false) ∧
    leaves 0x84C7FFFF (start [(6, 1)] []) (sumOf 7) = some (0, true, true) := by decide +kernel
theorem test_subs :
    leaves 0x98C72800 (start [(5, 0x80000000), (6, 1)] []) (sumOf 7) = some (0x7FFFFFFF, true, true) ∧
    leaves 0x9C850004 (start [(4, 1)] []) (sumOf 5) = some (3, false, false) := by decide +kernel
theorem test_subu :
    leaves 0x88C72800 (start [(5, 3), (6, 5)] []) (sumOf 7) = some (0xFFFFFFFE, false, true) ∧
    leaves 0x8CC7FFFF (start [] []) (sumOf 7) = some (0xFFFFFFFF, true, false) := by decide +kernel
/-- §2.1: a result to r0 is discarded, the flags are written. -/
theorem test_adds_to_r0 :
    leaves 0x90C02800 (start [(5, 5), (6, 0xFFFFFFFB)] []) (sumOf 0) = some (0, false, false) := by decide +kernel

/-- §2.2: the immediate is zero-extended. -/
theorem test_and :
    leaves 0xC4C7FFFF (start [(6, 0xFFFF8001)] []) (bitsOf 7) = some (0x8001, false) ∧
    leaves 0xC0C72800 (start [(5, 0xF0F0F0F0), (6, 0x0FF00FF0)] []) (bitsOf 7) = some (0x00F000F0, false) := by
  decide +kernel
theorem test_andh : leaves 0xCCC78000 (start [(6, 0x7FFFFFFF)] []) (bitsOf 7) = some (0, true) := by decide +kernel
/-- §2.2: the first operand is the one complemented. -/
theorem test_andnot :
    leaves 0xD0C72800 (start [(5, 0xFFFF), (6, 0x1234567F)] []) (bitsOf 7) = some (0x12340000, false) ∧
    leaves 0xD4C7000F (start [(6, 0x1234567F)] []) (bitsOf 7) = some (0x12345670, false) := by decide +kernel
theorem test_andnoth :
    leaves 0xDC8400C0 (start [(4, 0x5AC00000)] []) (bitsOf 4) = some (0x5A000000, false) := by decide +kernel
theorem test_or :
    leaves 0xE084C800 (start [(25, 0x1000), (4, 0x10000000)] []) (bitsOf 4) = some (0x10001000, false) ∧
    leaves 0xE4078000 (start [] []) (bitsOf 7) = some (0x8000, false) := by decide +kernel
theorem test_orh :
    leaves 0xEC840040 (start [(4, 0x5A000000)] []) (bitsOf 4) = some (0x5A400000, false) := by decide +kernel
theorem test_xor :
    leaves 0xF0A72800 (start [(5, 0xDEADBEEF)] []) (bitsOf 7) = some (0, true) ∧
    leaves 0xF4C7FFFF (start [(6, 0xFFFFFFFF)] []) (bitsOf 7) = some (0xFFFF0000, false) := by decide +kernel
theorem test_xorh : leaves 0xFCC7FFFF (start [(6, 0xFFFF)] []) (bitsOf 7) = some (0xFFFFFFFF, false) := by decide +kernel

/-- §2.3: counts above 31 use their low five bits. -/
theorem test_shl :
    leaves 0xA0C72800 (start [(5, 0x21), (6, 0xC0000001)] []) (State.R · 7) = some 0x80000002 ∧
    leaves 0xA4C70020 (start [(6, 3)] []) (State.R · 7) = some 3 := by decide +kernel
theorem test_shr :
    leaves 0xA8C72800 (start [(5, 0x24), (6, 0x80000000)] []) (fun t => (t.R 7, t.psr.sc)) = some (0x08000000, 4) ∧
    leaves 0xACC00008 (start [(6, 0x80000000)] []) (fun t => (t.R 0, t.psr.sc)) = some (0, 8) := by decide +kernel
theorem test_shra :
    leaves 0xB8C72800 (start [(5, 1), (6, 0xFFFFFFC5)] []) (State.R · 7) = some 0xFFFFFFE2 ∧
    leaves 0xBCC70004 (start [(6, 0x80000010)] []) (State.R · 7) = some 0xF8000001 := by decide +kernel
theorem test_shrd :
    leaves 0xB0C72800 { start [(5, 0x12345678), (6, 0x9ABCDEF0)] [] with psr := { Psr.reset with sc := 8 } }
      (State.R · 7) = some 0x789ABCDE ∧
    leaves 0xB0C72800 { start [(5, 0x12345678), (6, 0x9ABCDEF0)] [] with psr := { Psr.reset with sc := 31 } }
      (State.R · 7) = some 0x2468ACF1 := by decide +kernel
theorem test_core_pseudo_operations :
    leaves 0xA2380000 (start [(17, 0xDEADBEEF)] []) (State.R · 24) = some 0xDEADBEEF ∧
    leaves 0xA0000000 (start [] []) path = some (0x1004, none) ∧
    leaves 0xB0000000 (start [] []) (fun t => (t.mode, t.armed)) = some (.single, false) ∧
    leaves 0xB0000200 (start [] []) (fun t => (t.mode, t.armed)) = some (.single, true) := by decide +kernel

/-- The memory of §2.4, and everything else a program can reach is unpopulated. -/
def loads (rs : List (Reg × Word)) : State :=
  { start rs [] with
    holes := [(0, 0xFFF), (0x1008, 0x1FFF), (0x2020, 0xFFFFFFFF)]
    mem := Memory.write [] 0x2000 [0x80, 0x7F, 0xFE, 0xFF, 0x78, 0x56, 0x34, 0x12, 1, 2, 3, 4, 5, 6, 7, 8, 0x10, 0x11,
      0x12, 0x13, 0x14, 0x15, 0x16, 0x17, 0x18, 0x19, 0x1A, 0x1B, 0x1C, 0x1D, 0x1E, 0x1F] }

/-- What a trap leaves: the bits IAT and DAT, the latched address, pc. -/
def trapped (t : State) : Bool × Bool × Option Word × Word := (t.psr.iat, t.psr.dat, t.firLatched, t.pc)

theorem test_ldb :
    leaves 0x00A63800 (loads [(5, 0x2000), (7, 3)]) (State.R · 6) = some 0xFFFFFFFF ∧
    leaves 0x04A60001 (loads [(5, 0x2000)]) (State.R · 6) = some 0x7F := by decide +kernel
theorem test_lds :
    leaves 0x14A60002 (loads [(5, 0x2000)]) (State.R · 6) = some 0xFFFFFFFE ∧
    leaves 0x14A60000 (loads [(5, 0x2001)]) trapped = some (false, true, some 0x1000, 0xFFFFFF00) := by decide +kernel
theorem test_ldl :
    leaves 0x10A63801 (loads [(5, 0x1FFC), (7, 8)]) (State.R · 6) = some 0x12345678 ∧
    leaves 0x14A6FFFD (loads [(5, 0x2008)]) (State.R · 6) = some 0x12345678 := by decide +kernel
theorem test_ldl_outside_memory :
    leaves 0x14A60001 (loads [(5, 0x3000), (6, 9)]) (fun t => (trapped t, t.R 6)) =
      some ((false, true, some 0x1000, 0xFFFFFF00), 9) := by decide +kernel
theorem test_fldl :
    leaves 0x24A30007 (loads [(5, 0x2000)]) (fun t => (t.R 5, t.FS 3)) = some (0x2004, 0x12345678) := by decide +kernel
theorem test_fldd :
    leaves 0x20A43801 (loads [(5, 0x2000), (7, 8)]) (fun t => (t.R 5, t.FS 4, t.FS 5)) =
      some (0x2008, 0x04030201, 0x08070605) ∧
    refusal 0x24A30000 (loads [(5, 0x2000)]) = some .registerAlignment := by decide +kernel
theorem test_fldq :
    leaves 0x24A80015 (loads [(5, 0x2000)]) (fun t => (t.R 5, t.FS 8, t.FS 9, t.FS 10, t.FS 11)) =
      some (0x2010, 0x13121110, 0x17161514, 0x1B1A1918, 0x1F1E1D1C) ∧
    refusal 0x20A42801 (loads [(5, 0x1000)]) = some .restrictionF := by decide +kernel
/-- §2.4, load pipeline step 7: the entry's width decides what is written, f7 keeps its state. -/
theorem test_pfldd :
    leaves 0x64A60000
      { loads [(5, 0x2000)] with
        lPipe := ⟨.val 0x2010 0x1716151413121110 .d, .val 0x2008 0x04030201 .s, .val 0x200C 0x08070605 .s⟩
        f := ((start [] [(7, 77)]).f) }
      (fun t => (t.FS 6, t.FS 7, t.lPipe.q1)) = some (0x08070605, 77, .val 0x2000 0x12345678FFFE7F80 .d) := by
  decide +kernel
theorem test_pfldl :
    leaves 0x64A30002
      { loads [(5, 0x2000)] with lPipe := ⟨.undef, .undef, .val 0x2004 0x12345678 .s⟩ }
      (fun t => (t.FS 3, t.lPipe)) = some (0x12345678, ⟨.val 0x2000 0xFFFE7F80 .s, .undef, .undef⟩) := by decide +kernel

/-- The memory of §2.5. -/
def stores (rs fs : List (Reg × Word)) : State :=
  { start rs fs with
    holes := [(0, 0xFFF), (0x1008, 0x1FFF), (0x2020, 0xFFFFFFFF)]
    mem := Memory.write [] 0x2000 (List.replicate 32 0xEE) }

theorem test_stb :
    leaves 0x0CBF37FF (stores [(5, 0x2001), (6, 0xFFFFFF01)] []) (bytesAt 0x2000 2) = some [1, 0xEE] := by decide +kernel
theorem test_sts :
    leaves 0x1CA03002 (stores [(5, 0x2000), (6, 0x12345678)] []) (bytesAt 0x2001 4) = some [0xEE, 0x78, 0x56, 0xEE] := by
  decide +kernel
/-- §2.5: a stored zero byte is no entry of memory. -/
theorem test_stl :
    leaves 0x1CBF37FD (stores [(5, 0x2008), (6, 0xCAFEF00D)] []) (bytesAt 0x2003 6) =
      some [0xEE, 0x0D, 0xF0, 0xFE, 0xCA, 0xEE] ∧
    leaves 0x1CA00001 (stores [(5, 0x2000)] []) (fun t => (bytesAt 0x2000 5 t, Memory.wf t.mem)) =
      some ([0, 0, 0, 0, 0xEE], true) := by decide +kernel
theorem test_fstl :
    leaves 0x2E560007 (stores [(18, 0x2000)] [(22, 0x40000000)]) (fun t => (t.R 18, bytesAt 0x2004 4 t)) =
      some (0x2004, [0, 0, 0, 0x40]) := by decide +kernel
theorem test_fstd :
    leaves 0x28AA3800 (stores [(5, 0x2000), (7, 0x18)] [(10, 0xAABBCCDD), (11, 0x11223344)]) (bytesAt 0x2018 8) =
      some [0xDD, 0xCC, 0xBB, 0xAA, 0x44, 0x33, 0x22, 0x11] := by decide +kernel
theorem test_fstq :
    leaves 0x2CA40004 (stores [(5, 0x2010)] [(4, 1), (5, 2), (6, 3), (7, 4)]) (bytesAt 0x2010 16) =
      some [1, 0, 0, 0, 2, 0, 0, 0, 3, 0, 0, 0, 4, 0, 0, 0] := by decide +kernel
/-- §2.5: 16-bit pixels 0 and 2; and PS = 11. -/
theorem test_pstd :
    leaves 0x3EAC0009
      { stores [(21, 0x2000)] [(12, 0xBBBBAAAA), (13, 0xDDDDCCCC)] with psr := { Psr.reset with pm := 5, ps := 1 } }
      (fun t => (t.R 21, t.psr.pm, bytesAt 0x2008 8 t)) =
      some (0x2008, 0, [0xAA, 0xAA, 0xEE, 0xEE, 0xCC, 0xCC, 0xEE, 0xEE]) ∧
    refusal 0x3EAC0000 { stores [(21, 0x2000)] [] with psr := { Psr.reset with ps := 3 } } = some .pixelSize := by
  decide +kernel
theorem test_flush :
    leaves 0x34A00021 (stores [(5, 0x2000)] []) (fun t => (t.R 5, bytesAt 0x2020 1 t)) = some (0x2020, [0]) := by
  decide +kernel
theorem test_ixfr_fxfr :
    leaves 0x0804A000 (start [(20, 0x8000)] []) (State.FS · 4) = some 0x8000 ∧
    leaves 0x4806B040 (start [] [(22, 0x40000000)]) (State.R · 6) = some 0x40000000 := by decide +kernel

/-- A start state with CC, LCC and OF. -/
def flagged (rs : List (Reg × Word)) (cc lcc of : Bool) : State :=
  { start rs [] with psr := { Psr.reset with cc := cc, lcc := lcc }, epsr := { Epsr.reset with of := of } }

theorem test_bc_bnc :
    leaves 0x70000003 (flagged [] true false false) path = some (0x1010, none) ∧
    leaves 0x70000003 (flagged [] false false false) path = some (0x1004, none) ∧
    leaves 0x78000001 (flagged [] false false false) path = some (0x1008, none) ∧
    leaves 0x78000001 (flagged [] true false false) path = some (0x1004, none) := by decide +kernel
theorem test_bcT_bncT :
    leaves 0x77FFFFFE (flagged [] true false false) path = some (0x1004, some 0xFFC) ∧
    leaves 0x77FFFFFE (flagged [] false false false) path = some (0x1008, none) ∧
    leaves 0x7FFFFFFC (flagged [] false false false) path = some (0x1004, some 0xFF4) ∧
    leaves 0x7FFFFFFC (flagged [] true false false) path = some (0x1008, none) := by decide +kernel
theorem test_br :
    leaves 0x69FFFFFF (start [] []) path = some (0x1004, some 0x8001000) ∧
    leaves 0x6A000000 (start [] []) path = some (0x1004, some 0xF8001004) := by decide +kernel
theorem test_call :
    leaves 0x6C000100 (start [] []) (fun t => (path t, t.R 1)) = some ((0x1004, some 0x1404), 0x1008) := by decide +kernel
theorem test_calli :
    leaves 0x4C004002 (start [(8, 0x3000)] []) (fun t => (path t, t.R 1)) = some ((0x1004, some 0x3000), 0x1008) ∧
    refusal 0x4C000802 (start [(1, 0x3000)] []) = some .calliR1 := by decide +kernel
/-- §2.6 and §2.7: a plain jump, and the return of the trap handler. -/
theorem test_bri :
    leaves 0x40000800 (start [(1, 0x2000)] []) path = some (0x1004, some 0x2000) ∧
    leaves 0x40002800
      { start [(5, 0x1004)] [] with pc := 0xFFFFFF40, psr := { Psr.reset with it := true, pu := true, pim := true } }
      (fun t => (path t, t.psr.toWord)) = some ((0xFFFFFF44, some 0x1004), 0xF0) := by decide +kernel
/-- R409: a return to any slot address whose trap has been noted is refused, not to the latest alone; and R416, a return
to a context that a second trap has overwritten. -/
theorem test_bri_refused :
    refusal 0x40002800
      { start [(5, 0x2000)] [] with psr := { Psr.reset with it := true }, slotFirs := [0x3000, 0x2000] } =
      some .returnIntoSlot ∧
    refusal 0x40002800
      { start [(5, 0x2000)] [] with psr := { Psr.reset with it := true }, slotFirs := [0x3000], frames := [.lost] } =
      some .outerContextLost := by decide +kernel
theorem test_bte_btne :
    leaves 0x58C02802 (start [(5, 7), (6, 7)] []) path = some (0x100C, none) ∧
    leaves 0x5CDFFFFD (start [(6, 0xFFFFFFFF)] []) path = some (0x1004, none) ∧
    leaves 0x521F07FD (start [(16, 1)] []) path = some (0xFF8, none) ∧
    leaves 0x54D00000 (start [(6, 0x1E)] []) path = some (0xFFFE1004, none) := by decide +kernel
/-- §2.6: the sum wraps, LCC is of the true sum, and the old LCC decides. -/
theorem test_bla :
    leaves 0xB79FDFFE (flagged [(27, 0x7FFFFFFF), (28, 0x7FFFFFFF)] false false false)
      (fun t => (path t, t.R 28, t.psr.lcc)) = some ((0x1004, some 0x1008), 0xFFFFFFFE, true) ∧
    leaves 0xB79FDFFE (flagged [(27, 0x80000000), (28, 0x80000000)] false true false)
      (fun t => (path t, t.R 28, t.psr.lcc)) = some ((0x1004, some 0xFFC), 0, false) := by decide +kernel
/-- §2.6 S5: a control transfer in a delay slot. -/
theorem test_transfer_in_slot :
    refusal 0x68000000 { start [] [] with delay := some 0x1008 } = some .controlInSlot := by decide +kernel

/-- §2.7. -/
theorem test_ldc :
    leaves 0x30240000
      { start [] [] with psr := { Psr.reset with cc := true, lcc := true, ps := 1, pm := 0x5A } } (State.R · 4) =
      some 0x5A40000C ∧
    leaves 0x30060000 { start [] [] with pc := 0xFFFFFF04 } (State.R · 6) = some 0xFFFFFF04 := by decide +kernel
theorem test_stc :
    leaves 0x38202000 (start [(4, 0xA5A2000C)] []) (fun t => t.psr.toWord) = some 0xA5A2000C ∧
    leaves 0x38A02800 (flagged [(5, 0xFE7FFFFF)] false false true) (fun t => (t.epsr.of, t.epsr.ptype)) =
      some (false, 1) := by decide +kernel
/-- §2.7: the trap saves U and IM and vectors. -/
theorem test_trap :
    leaves 0x44000000 { start [] [] with psr := { Psr.reset with im := true, u := true } }
      (fun t => (t.psr.toWord, t.firLatched, t.pc)) = some (0x1A0, some 0x1000, 0xFFFFFF00) := by decide +kernel
theorem test_intovr :
    leaves 0x4C000004 (flagged [] false false false) path = some (0x1004, none) ∧
    leaves 0x4C000004 (flagged [] false false true) (fun t => (t.psr.it, t.pc)) = some (true, 0xFFFFFF00) := by
  decide +kernel
theorem test_lock_unlock :
    leaves 0x4C000001 (start [] []) (fun t => t.dirbase.bl) = some true ∧
    leaves 0x4C000007 { start [] [] with dirbase := { Dirbase.reset with bl := true }, busLock := true }
      (fun t => (t.dirbase.bl, t.busLock)) = some (false, true) := by decide +kernel
/-- §2.7: an enabled interrupt comes before the instruction. -/
theorem test_interrupt :
    leaves 0xA0000000
      { start [] [] with psr := { Psr.reset with im := true, u := true }, epsr := { Epsr.reset with int := true } }
      (fun t => (t.psr.inn, t.psr.pim, t.psr.pu, t.psr.u, t.firLatched)) =
      some (true, true, true, false, some 0x1000) := by decide +kernel
/-- R80: a word that the program has stored is not fetched. -/
theorem test_fetch_of_stored_word :
    (match step { start [] [] with stored := [0x1000] } with
      | .refused r => some r
      | _ => none) = some .fetchOfStored := by decide +kernel
/-- §2.13: reserved encodings. -/
theorem test_reserved_words :
    [0x18000000, 0xC8000000, 0xD8000000, 0xE8000000, 0xF8000000, 0x4C000000, 0x4C000003, 0x4C00001F, 0x48000025,
      0x488611A4, 0x488615A1, 0x48640422, 0x4806B440, 0x48601034, 0x48861930, 0x486410C9, 0x49802509, 0x64A00004,
      0x3CA00002, 0x34A00004, 0x30C50000, 0x3BE02800].all (fun w => decide (decodeTableWord 32 w = none)) = true := by
  decide +kernel

/-- §2.8: the result, and the pipeline of the unit undefined. -/
theorem test_fadd :
    leaves 0x48641030 (start [] [(2, 0x3FC00000), (3, 0x40100000)]) (fun t => (t.FS 4, t.aPipe.q3)) =
      some (0x40700000, .undef) ∧
    leaves 0x488611B0 (start [] [(3, 0x3FF00000), (5, 0x40000000)]) (State.FD · 6) = some 0x4008000000000000 := by
  decide +kernel
theorem test_fadd_sd :
    leaves 0x486410B0 (start [] [(2, 0x3FC00000), (3, 0x40100000)]) (State.FD · 4) = some 0x400E000000000000 ∧
    refusal 0x488619B0 (start [] []) = some .registerAlignment := by decide +kernel
theorem test_fsub :
    leaves 0x48641031 (start [] [(2, 0x3F800000), (3, 0x40600000)]) (State.FS · 4) = some 0xC0200000 ∧
    leaves 0x488611B1 (start [] [(3, 0x40080000), (5, 0x3FF00000)]) (State.FD · 6) = some 0x4000000000000000 := by
  decide +kernel
theorem test_fmul :
    leaves 0x486410A0 (start [] [(2, 0x3FC00000), (3, 0xC0000000)]) (State.FD · 4) = some 0xC008000000000000 ∧
    leaves 0x488611A0 (start [] [(3, 0x40080000), (5, 0x3FE00000)]) (State.FD · 6) = some 0x3FF8000000000000 := by
  decide +kernel
/-- §2.8: the low 53 bits of the product; bit 53 its top bit, whatever the free bits. -/
theorem test_fmlow :
    mulLow 0xFFFFFFFF 0xFFFFFFFF 0 = 0x1FFFFE00000001 ∧
    mulLow 0xFFFFFFFF 0xFFFFFFFF 0xFFFFFFFFFFFFFFFF = 0xFFDFFFFE00000001 := by decide +kernel
/-- §2.8: ties to even (the low half of a double result), and a negative whole number. -/
theorem test_fix :
    fpFix .d ⟨0, false⟩ 0x4004000000000000 = ⟨2, false, false, false, true⟩ ∧
    leaves 0x48041032 (start [] [(2, 0xC0E00000)]) (State.FS · 4) = some 0xFFFFFFF9 := by decide +kernel
/-- §2.8: truncation, whatever the rounding mode. -/
theorem test_ftrunc :
    fpTrunc .d ⟨2, false⟩ 0x4007FFFFFFFFFFFF = ⟨2, false, false, false, true⟩ ∧
    leaves 0x4804103A (start [] [(2, 0xC0200000)]) (State.FS · 4) = some 0xFFFFFFFE := by decide +kernel
/-- §2.8: a seed within the bound is taken, and one outside it is replaced; 1 / 2^127 is denormal. -/
theorem test_frcp_frsqr :
    (fpRcp .s .s ⟨0, false⟩ 0x40800000 0x3E800001).value = 0x3E800001 ∧
    (fpRcp .s .s ⟨0, false⟩ 0x40800000 0x3F800000).value = 0x3E800000 ∧
    (fpRcp .s .s ⟨0, false⟩ 0xFF000000 0).value = 0x80400000 ∧
    (fpRsqr .s .s ⟨0, false⟩ 0x40800000 0x3F000001).value = 0x3F000001 ∧
    (fpRsqr .s .s ⟨0, false⟩ 0x40800000 0xBF000000).value = 0x3F000000 := by decide +kernel
theorem test_famov :
    leaves 0x480418B3 (start [] [(3, 0x3FC00000)]) (State.FD · 4) = some 0x3FF8000000000000 ∧
    leaves 0x48032133 (start [] [(5, 0xBFD80000)]) (State.FS · 3) = some 0xBEC00000 := by decide +kernel
theorem test_famov_same_precision :
    leaves 0x48051833 (start [] [(3, 0x3FC00000)]) (State.FS · 5) = some 0x3FC00000 ∧
    leaves 0x480621B3 (start [] [(4, 0x20000000), (5, 0x4202A05F)]) (State.FD · 6) = some 0x4202A05F20000000 := by
  decide +kernel
/-- §2.8: fmov.ss copies a NaN pattern. -/
theorem test_fmov :
    leaves 0x48052049 (start [] [(4, 0x7FC12345)]) (State.FS · 5) = some 0x7FC12345 ∧
    leaves 0x480621C9 (start [] [(4, 0x55667788), (5, 0x11223344)]) (State.FD · 6) = some 0x1122334455667788 := by
  decide +kernel

/-- A start state whose adder and graphics pipelines are full. -/
def piped (p : Prec) (fs : List (Reg × Word)) : State :=
  { start [] fs with aPipe := ⟨.val 1 p, .val 2 p, .val 3 p⟩, gPipe := .val 7 p }

/-- §2.9: the oldest entry is delivered, the result enters. -/
theorem test_pfsub :
    leaves 0x48641431 (piped .s [(2, 0x3F800000), (3, 0x40600000)]) (fun t => (t.FS 4, t.aPipe)) =
      some (3, ⟨.val 0xC0200000 .s, .val 1 .s, .val 2 .s⟩) := by decide +kernel
theorem test_pfadd :
    leaves 0x488615B0 (piped .d [(3, 0x3FF00000), (5, 0x40000000)]) (fun t => (t.FD 6, t.aPipe)) =
      some (3, ⟨.val 0x4008000000000000 .d, .val 1 .d, .val 2 .d⟩) ∧
    leaves 0x486614B0 (piped .d [(2, 0x3FC00000), (3, 0x40100000)]) (fun t => (t.FD 6, t.aPipe.q1)) =
      some (3, .val 0x400E000000000000 .d) := by decide +kernel
theorem test_pfadd_of_another_precision : refusal 0x48641430 (piped .d []) = some .pipePrecision := by decide +kernel
theorem test_pfmul :
    leaves 0x488615A0 { start [] [(3, 0x40080000), (5, 0x3FE00000)] with mPipe := .two (.val 1 .d) (.val 2 .d) }
      (fun t => (t.FD 6, t.mPipe)) = some (2, .two (.val 0x3FF8000000000000 .d) (.val 1 .d)) ∧
    refusal 0x48484420 (start [] []) = some .restrictionC := by decide +kernel
theorem test_pfmul3 :
    leaves 0x488615A4
      { start [] [(3, 0x40080000), (5, 0x3FE00000)] with mPipe := .three (.val 1 .d) (.val 2 .d) (.val 3 .d) }
      (fun t => (t.FD 6, t.mPipe)) = some (3, .three (.val 0x3FF8000000000000 .d) (.val 1 .d) (.val 2 .d)) ∧
    refusal 0x488615A4 { start [] [] with mPipe := .two (.val 1 .d) (.val 2 .d) } = some .mulStageCount := by
  decide +kernel
theorem test_pfix :
    leaves 0x48041432 (piped .s [(2, 0xC0E00000)]) (fun t => (t.FS 4, t.aPipe.q1)) = some (3, .val 0xFFFFFFF9 .s) ∧
    leaves 0x480415B2 (piped .d [(3, 0x40040000)]) (fun t => (t.FD 4, t.aPipe.q3)) = some (3, .val 2 .d) := by
  decide +kernel
theorem test_pftrunc :
    leaves 0x4804143A (piped .s [(2, 0xC0200000)]) (fun t => (t.FS 4, t.aPipe.q1)) = some (3, .val 0xFFFFFFFE .s) ∧
    leaves 0x480415BA (piped .d [(3, 0xC0040000)]) (fun t => (t.FD 4, t.aPipe.q3)) = some (3, .val 2 .d) := by
  decide +kernel
theorem test_pfamov :
    leaves 0x48041CB3 (piped .d [(3, 0x3FC00000)]) (fun t => (t.FD 4, t.aPipe.q1)) =
      some (3, .val 0x3FF8000000000000 .d) := by decide +kernel
/-- §2.9: pfgt sets CC when the relation holds, pfle clears it, +0 equals -0; a compare enters an undefined entry. -/
theorem test_pfgt :
    leaves 0x48641434 (piped .s [(2, 0x40000000), (3, 0x3F800000)]) (fun t => (t.psr.cc, t.FS 4, t.aPipe)) =
      some (true, 3, ⟨.undef, .val 1 .s, .val 2 .s⟩) ∧
    leaves 0x48601434 (start [] [(2, 0x3F800000), (3, 0x3F800000)]) (·.psr.cc) = some false := by decide +kernel
theorem test_pfle :
    leaves 0x486014B4 (start [] [(2, 0x40000000), (3, 0x3F800000)]) (·.psr.cc) = some true ∧
    leaves 0x488015B4 (start [] [(3, 0x3FF00000), (5, 0x40000000)]) (·.psr.cc) = some false := by decide +kernel
theorem test_pfeq :
    leaves 0x48601435 (start [] [(3, 0x80000000)]) (·.psr.cc) = some true ∧
    leaves 0x488015B5 (start [] [(3, 0x3FF00000), (5, 0x40000000)]) (·.psr.cc) = some false := by decide +kernel
theorem test_pfmov :
    leaves 0x48052449 (piped .s [(4, 0x12345678)]) (fun t => (t.FS 5, t.gPipe)) = some (7, .val 0x12345678 .s) := by
  decide +kernel

/-- The start state of §2.10: A = (1.0, 2.0, 3.0), M = (10.0, 20.0, 30.0), f4 = 1.5, f12 = 4.0. -/
def dualStart : State :=
  { start [] [(4, 0x3FC00000), (12, 0x40800000)] with
    aPipe := ⟨.val 0x3F800000 .s, .val 0x40000000 .s, .val 0x40400000 .s⟩
    mPipe := .three (.val 0x41200000 .s) (.val 0x41A00000 .s) (.val 0x41F00000 .s) }

/-- §2.10: m12apm.ss adds 3.0 and 30.0 and multiplies 1.5 by 4.0, and delivers 3.0; m12asm.ss subtracts. -/
theorem test_m12apm :
    leaves 0x49882409 dualStart (fun t => (t.FS 8, t.aPipe.q1, t.mPipe.push .undef)) =
      some (0x40400000, .val 0x42040000 .s, .three .undef (.val 0x40C00000 .s) (.val 0x41200000 .s)) ∧
    refusal 0x49842409 dualStart = some .restrictionD := by decide +kernel
theorem test_m12asm :
    leaves 0x49802419 dualStart (fun t => (t.aPipe.q1, t.FS 0)) = some (.val 0xC1D80000 .s, 0) := by decide +kernel
/-- §2.10, DPC 0000: KR times fsrc2 (2.0 x 4.0), fsrc1 plus the last product (1.5 + 30.0). -/
theorem test_pfam_dpc0 :
    leaves 0x49802400 { dualStart with kr := ⟨0x40000000, .s⟩ } (fun t => (t.aPipe.q1, t.mPipe.push .undef)) =
      some (.val 0x41FC0000 .s, .three .undef (.val 0x41000000 .s) (.val 0x41200000 .s)) := by decide +kernel
theorem test_pfmam_pfmsm :
    (leaves 0x49802009 dualStart (·.pc)) = some 0x1004 ∧ refusal 0x49802090 (start [] []) = some .mixedPrecisionDual := by
  decide +kernel

/-- §2.11. -/
theorem test_fiadd :
    leaves 0x48641049 (start [] [(2, 0xFFFFFFFF), (3, 2)]) (State.FS · 4) = some 1 ∧
    leaves 0x488611C9 (start [] [(2, 0xFFFFFFFF), (4, 1)]) (State.FD · 6) = some 0x100000000 := by decide +kernel
theorem test_fisub :
    leaves 0x4864104D (start [] [(2, 1), (3, 2)]) (State.FS · 4) = some 0xFFFFFFFF ∧
    leaves 0x488611CD (start [] [(4, 1)]) (State.FD · 6) = some 0xFFFFFFFFFFFFFFFF := by decide +kernel
/-- §2.11: 8-bit and 16-bit pixels. -/
theorem test_faddp :
    leaves 0x488611D0
      { start [] [(2, 0x90ABCDEF), (3, 0x12345678), (4, 0x11111111), (5, 0x11111111)] with merge := 0x00AA00BB00CC00DD }
      (fun t => (t.FD 6, t.merge)) = some (0x23456789A1BCDF00, 0x23006700A100DF00) ∧
    leaves 0x488611D0
      { start [] [(2, 0x90ABCDEF), (3, 0x12345678), (4, 0x11111111), (5, 0x11111111)] with
        merge := 0xFFFFFFFFFFFFFFFF, psr := { Psr.reset with ps := 1 } }
      (·.merge) = some 0x23FF67FFA3FFDFFF := by decide +kernel
theorem test_faddz :
    leaves 0x488611D1 { start [] [(2, 0x90ABCDEF), (3, 0x12345678)] with merge := 0xAAAABBBBCCCCDDDD }
      (fun t => (t.FD 6, t.merge)) = some (0x1234567890ABCDEF, 0x1234AAAA90ABCCCC) := by decide +kernel
theorem test_form :
    leaves 0x480AD1DA { start [] [(26, 0xFFFFFFFF)] with merge := 0x0003000200010000 } (fun t => (t.FD 10, t.merge)) =
      some (0x00030002FFFFFFFF, 0) := by decide +kernel
theorem test_fzchks :
    leaves 0x494A41DF
      { start [] [(8, 0x0005FFFE), (9, 0x00100011), (10, 0x00100010), (11, 0x00110011)] with
        merge := 0x99, psr := { Psr.reset with pm := 0x5A } }
      (fun t => (t.FD 10, t.psr.pm, t.merge)) = some (0x0010001100050010, 0x55, 0) := by decide +kernel
theorem test_fzchkl :
    leaves 0x488611D7
      { start [] [(2, 5), (3, 0x80000000), (4, 6), (5, 0x7FFFFFFF)] with psr := { Psr.reset with pm := 0xFF } }
      (fun t => (t.FD 6, t.psr.pm)) = some (0x7FFFFFFF00000005, 0xBF) := by decide +kernel
/-- §2.11, pipelined: the old entry is delivered, PM is updated at once. -/
theorem test_pfzchks :
    leaves 0x488415DF (piped .d [(2, 1), (4, 2)]) (fun t => (t.FD 4, t.psr.pm)) = some (7, 0xE0) := by decide +kernel
theorem test_pfaddz :
    leaves 0x488615D1 (piped .d [(2, 0x20000), (3, 0x10000)]) (fun t => (t.FD 6, t.merge)) =
      some (7, 0x0001000000020000) := by decide +kernel
theorem test_pfiadd :
    leaves 0x488A25C9 (piped .d [(4, 0x20)]) (fun t => (t.FD 10, t.gPipe)) = some (7, .val 0x40 .d) ∧
    refusal 0x488215C9 (piped .d []) = some .restrictionE := by decide +kernel
theorem test_pform :
    refusal 0x481015DA (piped .s []) = some .pipePrecision ∧
    leaves 0x480015DA (piped .s [(2, 0x10)]) (·.gPipe) = some (.val 0x10 .d) := by decide +kernel

/-- A pair at 0x1000 in dual-instruction mode. -/
def pairAt (s : State) (fw cw : Nat) : State :=
  { s with mode := .dual, mem := Memory.write s.mem 0x1000 (bytesOfWord (BitVec.ofNat 32 fw) ++ bytesOfWord (BitVec.ofNat 32 cw)) }

/-- What the step of a pair leaves of a part of the state. -/
def pairLeaves {α : Type} (s : State) (fw cw : Nat) (part : State → α) : Option α :=
  match step (pairAt s fw cw) with
  | .next t => some (part t)
  | _ => none

/-- Why the step of a pair is refused. -/
def pairRefusal (s : State) (fw cw : Nat) : Option Refusal :=
  match step (pairAt s fw cw) with
  | .refused r => some r
  | _ => none

/-- §2.12: both halves read the state before the pair. -/
theorem test_pair_reads_old_state :
    pairLeaves (start [(6, 0x22222222)] [(8, 0x11111111)]) 0x48094249 0x08083000 (fun t => (t.FS 8, t.FS 9, t.pc)) =
      some (0x22222222, 0x11111111, 0x1008) := by decide +kernel
theorem test_pair_exit :
    pairLeaves (start [] []) 0xB0000000 0xA0000000 (fun t => (t.mode, t.armed)) = some (.dual, true) ∧
    pairLeaves { start [] [] with armed := true } 0xB0000000 0xA0000000 (fun t => (t.mode, t.armed)) =
      some (.single, false) := by decide +kernel
theorem test_pair_refusals :
    pairRefusal (start [(5, 0x2000)] []) 0x48681249 0x24A80002 = some .pairConflict ∧
    pairRefusal (start [] []) 0xB0000200 0x6C000006 = some .callInDual ∧
    pairRefusal (start [] []) 0xB0000200 0x48641030 = some .pairHalves ∧
    pairRefusal { start [] [] with armed := true } 0xB0000200 0xA0000000 = some .modeExcursion ∧
    pairRefusal (start [] []) 0xB0000000 0x68000006 = some .controlInTransition := by decide +kernel
theorem test_pair_branch :
    pairLeaves (start [] []) 0xB0000200 0x68000006 path = some (0x1008, some 0x1020) ∧
    pairLeaves (flagged [(27, 0xFFFFFFFF), (28, 3)] false false false) 0xB0000200 0xB780D802
      (fun t => (path t, t.R 28, t.psr.lcc)) = some ((0x1008, some 0x1010), 2, true) := by decide +kernel
/-- R407 in a pair: the floating-point half reports a pending result exception at the pair's address, with FTE = 1. -/
theorem test_pair_trap :
    pairLeaves { start [] [] with fpPending := true, fsr := 0x20 } 0x48081249 0xA0000000
      (fun t => (t.psr.ft, t.psr.dim, t.firLatched, t.mode, t.pc)) =
      some (true, true, some 0x1000, .single, 0xFFFFFF00) ∧
    pairLeaves { start [] [] with fpPending := true } 0x48081249 0xA0000000
      (fun t => (t.psr.ft, t.fpPending, t.pc)) = some (false, true, 0x1008) := by decide +kernel
/-- R460 rows 3, 9 and 10 in a pair. -/
theorem test_pair_refused_by_value :
    pairRefusal (start [(5, 0x2002)] []) 0xB0000200 0x40002800 = some .misalignedTarget ∧
    pairRefusal { start [] [] with psr := { Psr.reset with ps := 3 }, skipCore := true } 0x484013D0 0 =
      some .pixelSize ∧
    pairRefusal { start [(5, 0x2000)] [] with lPipe := ⟨.undef, .undef, .val 0x2000 0 .s⟩ } 0xB0000200 0x1CA03001 =
      some .storeToPendingPfld := by decide +kernel
/-- R411: a fetch fault of the second word comes before the refusal of a reserved first word. -/
theorem test_pair_fetch_fault :
    pairLeaves { start [] [] with holes := [(0x1004, 0x1007)] } 0x18000000 0xA0000000
      (fun t => (t.psr.iat, t.firLatched)) = some (true, some 0x1000) := by decide +kernel
/-- §2.12: entry to dual-instruction mode, in single-instruction mode. -/
theorem test_mode_entry :
    leaves 0x480003C9 (start [] []) (fun t => (t.mode, t.armed)) = some (.single, true) ∧
    leaves 0x9652FFFC { start [(18, 0x100)] [] with armed := true } (fun t => (t.R 18, t.mode, t.armed)) =
      some (0xFC, .dual, false) ∧
    refusal 0x48000049 { start [] [] with armed := true } = some .modeExcursion ∧
    refusal 0x68000003 { start [] [] with armed := true } = some .controlInTransition := by decide +kernel

/-- The reset state's memory is canonical; a word placed at the reset vector is the first instruction to run (R451). -/
theorem test_first_instruction_after_reset :
    Memory.wf State.reset.mem = true ∧ leaves 0x94077FFF State.reset (fun t => (t.R 7, t.pc)) = some (0x7FFF, 0xFFFFFF04) := by
  decide +kernel

/-! ## Witnesses: for every statement with hypotheses, a state and operands that meet them -/

/-- A step ends in a next state. -/
def runs (s : State) : Bool :=
  match step s with
  | .next _ => true
  | _ => false

/-- `exec` ends in a next state. -/
def completes (i : Instr) (s : State) : Bool :=
  match exec i s with
  | .next _ => true
  | _ => false

theorem step_of_runs {s : State} (h : runs s = true) : ∃ t, step s = .next t := by
  unfold runs at h
  split at h
  · exact ⟨_, ‹_›⟩
  · cases h

theorem exec_of_completes {i : Instr} {s : State} (h : completes i s = true) : ∃ t, exec i s = .next t := by
  unfold completes at h
  split at h
  · exact ⟨_, ‹_›⟩
  · cases h

/-- A store in the delay slot of a transfer, in user mode. -/
def slotStore : State :=
  { stores [(5, 0x2000), (6, 1)] [] with delay := some 0x3000, psr := { Psr.reset with u := true } }.withFetchWord 32
    0x1CA03009

theorem witness_StepKeepsMemoryCanonical : MemoryCanonical slotStore ∧ ∃ t, step slotStore = .next t :=
  ⟨by unfold MemoryCanonical; decide +kernel, step_of_runs (by decide +kernel)⟩
theorem witness_StepKeepsPcAligned :
    PcAligned slotStore ∧ slotStore.delay = some 0x3000 ∧ ∃ t, step slotStore = .next t :=
  ⟨⟨by decide +kernel, fun t h => by cases h; decide⟩, rfl, step_of_runs (by decide +kernel)⟩
theorem witness_StepStaysInModelledPart : InModelledPart slotStore ∧ ∃ t, step slotStore = .next t :=
  ⟨by unfold InModelledPart; decide +kernel, step_of_runs (by decide +kernel)⟩
/-- An instruction that completes in user mode, and one that traps. -/
theorem witness_UserModeCannotChangeSupervisorState :
    (slotStore.psr.u = true ∧ slotStore.psr.anyTrap = false ∧ ∃ t, step slotStore = .next t) ∧
    (let s := { slotStore with delay := none }.withFetchWord 32 0x44000000
     s.psr.u = true ∧ s.psr.anyTrap = false ∧ ∃ t, step s = .next t) :=
  ⟨⟨rfl, rfl, step_of_runs (by decide +kernel)⟩, rfl, rfl, step_of_runs (by decide +kernel)⟩
theorem witness_StepKeepsReadOnlyState : ∃ t, step slotStore = .next t := step_of_runs (by decide +kernel)
/-- nop writes none of the flags and no memory. -/
theorem witness_FlagsAndMemoryHaveOnlyTheirWriters :
    writesCC .nop = false ∧ writesLCC .nop = false ∧ writesOF .nop = false ∧ writesSC .nop = false ∧
    writesPM .nop = false ∧ (∀ r, Instr.nop ≠ .stc r .psr) ∧ storesMemory .nop = false ∧
    ∃ t, exec .nop (start [] []) = .next t :=
  ⟨rfl, rfl, rfl, rfl, rfl, (by intro r h; cases h), rfl, exec_of_completes (by decide +kernel)⟩
/-- fld.q with autoincrement writes r5 and f8 to f11; a pfld its entry's registers. -/
theorem witness_InstructionsWriteOnlyTheirNamedRegisters :
    (6 ∉ (traits (.fldqI true 2 5 8)).rDests ∧ 12 ∉ (traits (.fldqI true 2 5 8)).fDests ∧
      12 ∉ coreFDests (loads [(5, 0x2000)]) (.fldqI true 2 5 8) ∧
      ∃ t, exec (.fldqI true 2 5 8) (loads [(5, 0x2000)]) = .next t) ∧
    (7 ∉ (traits (.pfldlI false 0 5 6)).fDests ∧ 7 ∉ coreFDests (loads [(5, 0x2000)]) (.pfldlI false 0 5 6) ∧
      ∃ t, exec (.pfldlI false 0 5 6) (loads [(5, 0x2000)]) = .next t) :=
  ⟨⟨by decide, by decide, by decide +kernel, exec_of_completes (by decide +kernel)⟩,
    by decide, by decide +kernel, exec_of_completes (by decide +kernel)⟩
theorem witness_DecodeInvertsEncode :
    (Instr.pfmamSs 14 true 5 10 20).WellFormed = true ∧ (Instr.btneI 31 6 0xFFFF).WellFormed = true := by decide
theorem witness_DecodedInstructionIsWellFormed : decode 0xA2380000#32 = .ok (.shlR 0 17 24) := rfl
/-- A word for each clause, at the least and the greatest value of its range. -/
theorem witness_ReservedWordsAreRejected :
    [0x18000000#32, 0xCBFFFFFF#32, 0xD8000000#32, 0xE8000000#32, 0xF8000000#32].map (fun w => w.toNat / 2 ^ 26) =
      [0x06, 0x32, 0x36, 0x3A, 0x3E] ∧
    [0x4C000000#32, 0x4C00001F#32].map (fun w => (w.toNat / 2 ^ 26, w.toNat % 2 ^ 5)) = [(0x13, 0), (0x13, 31)] ∧
    [0x30C50000#32, 0x33E00000#32, 0x38C00000#32, 0x3BE02800#32].map
      (fun w => (w.toNat / 2 ^ 26, w.toNat / 2 ^ 21 % 32)) = [(0x0C, 6), (0x0C, 31), (0x0E, 6), (0x0E, 31)] ∧
    [0x60000004#32, 0x64000005#32].map (fun w => (w.toNat / 2 ^ 26, w.getLsbD 1, w.getLsbD 2)) =
      [(0x18, false, true), (0x19, false, true)] ∧
    [0x34000002#32, 0x3C000004#32].map (fun w => (w.toNat / 2 ^ 26, w.getLsbD 1, w.getLsbD 2)) =
      [(0x0D, true, false), (0x0F, false, true)] ∧
    [0x48000025#32, 0x4800007F#32, 0x48000421#32, 0x48000440#32, 0x48000024#32, 0x48000135#32, 0x48000120#32,
      0x4800011F#32, 0x48000500#32, 0x480000C9#32, 0x4800014D#32, 0x480000A1#32, 0x48000424#32].map
      (fun w => (w.toNat / 2 ^ 26, w.toNat % 2 ^ 7, w.getLsbD 10, w.getLsbD 8, w.getLsbD 7)) =
      [(0x12, 0x25, false, false, false), (0x12, 0x7F, false, false, false), (0x12, 0x21, true, false, false),
        (0x12, 0x40, true, false, false), (0x12, 0x24, false, false, false), (0x12, 0x35, false, true, false),
        (0x12, 0x20, false, true, false), (0x12, 0x1F, false, true, false), (0x12, 0x00, true, true, false),
        (0x12, 0x49, false, false, true), (0x12, 0x4D, false, true, false), (0x12, 0x21, false, false, true),
        (0x12, 0x24, true, false, false)] := by
  decide +kernel

/-- A machine that may execute any core instruction, with r5 = 0x2000. -/
def ready : State := start [(5, 0x2000), (6, 0x12345678)] [(2, 0x3F800000), (4, 0x40000000)]

/-- An instruction at 0x1000, ready to be fetched. -/
def readyAt (w : Nat) : State := (loads [(5, 0x2000)]).withFetchWord 32 w

theorem witness_StepRunsTheDecodedInstruction :
    let s := readyAt 0x14A60005
    FetchReady s ∧ s.accessible s.pc 4 ∧ s.pc.toNat ∉ s.stored ∧
      decodeBytes ((List.range 4).map fun k => Memory.get s.mem (s.pc.toNat + k)) = .ok (.ldlI 2 5 6) := by
  unfold FetchReady State.accessible
  exact ⟨by decide +kernel, by decide +kernel, by decide +kernel, rfl⟩
/-- The end of the run; an interrupt; a fetch outside memory at its first unpopulated word; a stored word. -/
theorem witness_EventsBeforeTheInstruction :
    (let s := { readyAt 0 with haltPc := some 0x1000 }
     s.haltPc = some s.pc ∧ s.delay = none ∧ s.mode = .single) ∧
    (let s := { readyAt 0 with epsr := { Epsr.reset with int := true }, psr := { Psr.reset with im := true } }
     ¬(s.haltPc = some s.pc ∧ s.delay = none ∧ s.mode = .single) ∧ s.epsr.int = true ∧ s.psr.im = true ∧
       s.dirbase.bl = false ∧ s.busLock = false) ∧
    (let s := { readyAt 0 with pc := 0x1008 }
     FetchReady s ∧ ¬s.accessible s.pc 4 ∧ s.dirbase.bl = false) ∧
    (let s := { readyAt 0 with stored := [0x1000] }
     FetchReady s ∧ s.accessible s.pc 4 ∧ s.pc.toNat ∈ s.stored) ∧
    (let s := readyAt 0x18000000
     FetchReady s ∧ s.accessible s.pc 4 ∧ s.pc.toNat ∉ s.stored ∧ decode (s.wordAt s.pc) = .error .primaryOpcode) := by
  unfold FetchReady State.accessible
  exact ⟨by decide +kernel, by decide +kernel, by decide +kernel, by decide +kernel, by decide +kernel, by decide +kernel,
    by decide +kernel, rfl⟩
/-- A pair: either word unpopulated, either word stored, either word reserved, and a second word that is skipped. -/
theorem witness_EventsBeforeTheInstruction_pair :
    (let s := { pairAt (start [] []) 0xB0000200 0x18000000 with holes := [(0x1004, 0x1007)] }
     s.mode = .dual ∧ s.pc.toNat % 8 = 0 ∧ s.interrupted = false ∧ s.skipCore = false ∧ ¬s.accessible (s.pc + 4) 4 ∧
       s.dirbase.bl = false) ∧
    (let s := { pairAt (start [] []) 0x18000000 0 with skipCore := true, holes := [(0x1004, 0x1007)] }
     s.accessible s.pc 4 ∧ s.skipCore = true ∧ s.pc.toNat ∉ s.stored ∧
       decode (s.wordAt s.pc) = .error .primaryOpcode) ∧
    (let s := { pairAt (start [] []) 0xB0000200 0x18000000 with stored := [0x1000] }
     s.accessible s.pc 4 ∧ s.accessible (s.pc + 4) 4 ∧ s.pc.toNat ∈ s.stored) ∧
    (let s := { pairAt (start [] []) 0xB0000200 0x18000000 with stored := [0x1004] }
     s.pc.toNat ∉ s.stored ∧ decode (s.wordAt s.pc) = .ok (.shrd true 0 0 0) ∧ (s.pc + 4).toNat ∈ s.stored) ∧
    (let s := pairAt (start [] []) 0xB0000200 0x18000000
     (s.pc + 4).toNat ∉ s.stored ∧ decode (s.wordAt (s.pc + 4)) = .error .primaryOpcode) := by
  unfold State.accessible
  exact ⟨by decide +kernel, ⟨by decide +kernel, by decide +kernel, by decide +kernel, rfl⟩, by decide +kernel,
    ⟨by decide +kernel, rfl, by decide +kernel⟩, by decide +kernel, rfl⟩
/-- A step on a reserved word, and on a pair whose second word is reserved, names the word. -/
theorem test_reserved_refused :
    refusal 0x18000000 (start [] []) = some (.reservedEncoding .primaryOpcode 0x18000000) ∧
    pairRefusal (start [] []) 0xB0000200 0xF8000001 = some (.reservedEncoding .primaryOpcode 0xF8000001) := by
  decide +kernel

/-- Both halves complete (d.fiadd.ss f2,f0,f8 / adds 1,r5,r5); the core half traps (ld.l of a misaligned address); the
floating-point half traps (a pending result exception). -/
theorem witness_PairAppliesBothHalvesOrTraps :
    (let s := pairAt (start [(5, 7)] [(2, 5)]) 0x48081249 0x94A50001
     PairReady s (.fiaddSs true 2 0 8) (.addsI 1 5 5) true ∧ s.delay = none ∧
       ∃ sf sc, effect (.fiaddSs true 2 0 8) s = .ok sf .seq ∧
         effect (.addsI 1 5 5) { s with free := sf.free } = .ok sc .seq) ∧
    (let s := pairAt (start [(5, 0x2002)] [(2, 5)]) 0x48081249 0x14A60001
     PairReady s (.fiaddSs true 2 0 8) (.ldlI 0 5 6) true ∧ s.dirbase.bl = false ∧
       ∃ sf sc, effect (.fiaddSs true 2 0 8) s = .ok sf .seq ∧
         effect (.ldlI 0 5 6) { s with free := sf.free } = .trap .dat sc) ∧
    (let s := pairAt { start [(5, 7)] [(2, 5)] with fpPending := true, fsr := 0x20 } 0x48081249 0x94A50001
     PairReady s (.fiaddSs true 2 0 8) (.addsI 1 5 5) true ∧ (effect (.addsI 1 5 5) s).staticRefusal = none ∧
       s.dirbase.bl = false ∧ ∃ sf, effect (.fiaddSs true 2 0 8) s = .trap .ft sf) := by
  unfold PairReady State.CoreHalf
  exact ⟨⟨by decide +kernel, rfl, _, _, rfl, rfl⟩, ⟨by decide +kernel, rfl, _, _, rfl, rfl⟩,
    by decide +kernel, by decide +kernel, rfl, _, rfl⟩
/-- A transfer in the core half, a skip, and a pair that is the slot of a transfer. -/
theorem witness_PairAppliesBothHalvesOrTraps_control :
    (let s := pairAt (start [] []) 0xB0000200 0x68000006
     PairReady s (.shrd true 0 0 0) (.br 6) true ∧ effect (.shrd true 0 0 0) s = .ok s .seq ∧
       effect (.br 6) s = .ok s (.delayed 0x1020 none)) ∧
    (let s := pairAt (start [] []) 0xB0000200 0x74000006
     PairReady s (.shrd true 0 0 0) (.bcT 6) true ∧ s.delay = none ∧ effect (.bcT 6) s = .ok s .skip) ∧
    (let s := pairAt { start [] [] with delay := some 0x2000, skipCore := true } 0xB0000200 0
     PairReady s (.shrd true 0 0 0) .nop true ∧ s.delay = some 0x2000 ∧ effect .nop s = .ok s .seq) := by
  unfold PairReady State.CoreHalf
  refine ⟨⟨?_, ?_, ?_⟩, ⟨?_, ?_, ?_⟩, ?_, ?_, ?_⟩ <;> decide +kernel
/-- Each clause: a slot without and with a selected mode, and no slot. -/
theorem witness_SequenceModeAndDelaySlot :
    (let s := { start [] [] with delay := some 0x2000 }
     s.mode = .single ∧ s.delay = some 0x2000 ∧ s.delayMode = none) ∧
    (let s := { start [] [] with delay := some 0x2000, delayMode := some ⟨.dual, true⟩ }
     s.mode = .single ∧ s.delay = some 0x2000 ∧ s.delayMode = some ⟨.dual, true⟩) ∧
    (start [] []).mode = .single ∧ (start [] []).delay = none := by decide +kernel
/-- Rows 1 to 5 of R460: a delay slot, transfers, wide registers, equal registers, restrictions c to e; the mode
transitions. -/
theorem witness_RestrictedUsesAreRefused :
    (let s := { start [] [] with delay := some 0x2000 }
     isControl (.bri 1) = true ∧ s.mode = .single ∧ s.armed = false ∧ s.delay.isSome = true) ∧
    (TransferReady (start [(5, 0x2002)] []) ∧ (5 : Reg) ≠ 1 ∧ ((start [(5, 0x2002)] []).R 5).toNat % 4 ≠ 0) ∧
    (let s := { start [] [] with armed := true }
     s.mode = .single ∧ s.armed = true ∧ dbit (.faddSs false 2 3 4) = some false ∧ isControl (.br 0) = true) ∧
    ((∃ x ∈ doubleRegs (.faddSd true 2 3 31), x.toNat % 2 ≠ 0) ∧ (∃ x ∈ quadRegs (.fldqI true 2 5 30), x.toNat % 4 ≠ 0) ∧
      dbit (.fldqI true 2 5 30) = none) ∧
    ((30 : Reg).toNat % 2 = 0 ∧ (28 : Reg).toNat % 4 = 0 ∧ (31 : Reg) ≠ 0) ∧
    ((dataPathA 0).m1 ≠ .src1 ∧ (dataPathA 0).kLoad = .none ∧ (dataPathA 9).m1 = .src1 ∧ (dataPathM 0).kLoad = .none ∧
      (dataPathM 1).kLoad ≠ .none) := by
  unfold TransferReady
  decide +kernel
/-- Rows 9 and 10 of R460: PS = 11, a pixel store and another store to bytes that a pfld has yet to deliver. -/
theorem witness_RestrictedUsesAreRefused_data :
    (let s := { ready with psr := { Psr.reset with ps := 3 } }
     FpReady s true ∧ s.psr.ps = 3 ∧ (30 : Reg).toNat % 2 = 0 ∧ ((30 : Reg) = 0 ∨ (2 : Reg) ≠ 30 ∧ (4 : Reg) ≠ 30) ∧
       DataReady s ∧ s.accessible 0x2008 8) ∧
    (let s := { stores [(5, 0x2000)] [] with
       psr := { Psr.reset with pm := 0x8, ps := 1 }, lPipe := ⟨.val 0x200C 0 .s, .undef, .undef⟩ }
     DataReady s ∧ s.accessible 0x2008 8 ∧ pixelBytes s.psr.ps = some 2 ∧ 3 < 8 / 2 ∧ s.psr.pm.getLsbD 3 = true ∧
       s.pfldPending (0x2008 + BitVec.ofNat 32 (3 * 2)) 2 = true) ∧
    (let s := { stores [(5, 0x2000)] [] with lPipe := ⟨.undef, .undef, .val 0x200C 0 .s⟩ }
     storesMemory (.stb 6 0x000F 5) = true ∧ (∀ a b c e, Instr.stb 6 0x000F 5 ≠ .pstd a b c e) ∧
       dataAccess s (.stb 6 0x000F 5) = some (0x200F, 1) ∧ DataReady s ∧ s.accessible 0x200F 1 ∧
       s.pfldPending 0x200F 1 = true ∧ (effect (.stb 6 0x000F 5) s).staticRefusal = none) := by
  unfold FpReady DataReady State.accessible
  exact ⟨by decide +kernel, by decide +kernel, by decide +kernel, (by intro a b c e h; cases h), by decide +kernel,
    by decide +kernel, by decide +kernel, by decide +kernel, by decide +kernel⟩
/-- Rows 3, 9 and 10 in a pair, where the halves are fetched or skipped: refusals that hang on values. -/
theorem witness_RestrictedUsesAreRefused_values :
    (let s := pairAt (start [(5, 0x2002)] []) 0xB0000200 0x40002800
     s.fetch s.pc = .instr (.shrd true 0 0 0) ∧ s.CoreHalf (.bri 5) ∧
       (∃ sf, effect (.shrd true 0 0 0) s = .ok sf .seq ∧
         effect (.bri 5) { s with free := sf.free } = .refuse .misalignedTarget)) ∧
    (let s := pairAt { start [] [] with psr := { Psr.reset with ps := 3 }, skipCore := true } 0x484013D0 0
     s.fetch s.pc = .instr (.faddp true 2 2 0) ∧ s.CoreHalf .nop ∧
       effect (.faddp true 2 2 0) s = .refuse .pixelSize ∧ (effect .nop s).staticRefusal = none) ∧
    (let s := pairAt { start [(5, 0x2000)] [] with lPipe := ⟨.undef, .undef, .val 0x2000 0 .s⟩ } 0xB0000200 0x1CA03001
     s.fetch (s.pc + 4) = .instr (.stl 6 0 5) ∧
       effect (.stl 6 0 5) s = .refuse .storeToPendingPfld) := by
  unfold State.CoreHalf
  exact ⟨⟨by decide +kernel, by decide +kernel, _, rfl, rfl⟩, by decide +kernel, by decide +kernel⟩
/-- Pairs: an address, wrong halves, mode transitions, a common write, a call, a transfer in a slot. -/
theorem witness_RestrictedUsesAreRefused_pairs :
    (let s := { pairAt (start [] []) 0 0 with pc := 0x1004 }
     s.mode = .dual ∧ s.interrupted = false ∧ s.pc.toNat % 8 ≠ 0) ∧
    (let s := pairAt (start [] []) 0x94A50001 0x48081249
     s.fetch s.pc = .instr (.addsI 1 5 5) ∧ s.skipCore = false ∧ s.fetch (s.pc + 4) = .instr (.fiaddSs true 2 0 8) ∧
       dbit (.addsI 1 5 5) = none ∧ (traits (.fiaddSs true 2 0 8)).fp = true) ∧
    (let s := pairAt { start [(5, 0x2000)] [] with armed := true } 0xB0000200 0x68000006
     s.fetch s.pc = .instr (.shrd true 0 0 0) ∧ s.fetch (s.pc + 4) = .instr (.br 6) ∧ s.armed = true ∧
       dbit (.shrd true 0 0 0) = some true ∧ (traits (.br 6)).fp = false) ∧
    (dbit (.shrd false 0 0 0) = some false ∧ isControl (.br 6) = true) ∧
    (let s := pairAt (start [(5, 0x2000)] []) 0x48681249 0x24A80002
     s.fetch s.pc = .instr (.fiaddSs true 2 3 8) ∧ s.fetch (s.pc + 4) = .instr (.fldlI false 0 5 8) ∧
       (∃ x ∈ (traits (.fiaddSs true 2 3 8)).fDests, x ∈ coreFDests s (.fldlI false 0 5 8) ∧ x ≠ 0 ∧ x ≠ 1)) ∧
    (let s := pairAt (start [] []) 0xB0000200 0x6C000006
     pairConflict s (.shrd true 0 0 0) (.call 6) = false ∧ (effect (.shrd true 0 0 0) s).staticRefusal = none ∧
       s.fetch (s.pc + 4) = .instr (.call 6) ∧ s.delay = none) ∧
    (let s := pairAt (start [(5, 0x2000)] []) 0xB0000200 0xA0000000
     Refusal.registerAlignment.static = true ∧ effect (.faddSd true 2 3 31) s = .refuse .registerAlignment ∧
       pairConflict s (.faddSd true 2 3 31) .nop = false ∧
       effect (.flddI false 2 5 29) { s with free := (effect (.shrd true 0 0 0) s).freeAfter s } =
         .refuse .registerAlignment) ∧
    (let s := pairAt { start [] [] with delay := some 0x2000 } 0xB0000200 0x44000000
     pairConflict s (.shrd true 0 0 0) (.trap 0 0 0) = false ∧ s.fetch (s.pc + 4) = .instr (.trap 0 0 0) ∧
       s.delay.isSome = true) := by
  decide +kernel
theorem witness_TrapEntrySavesAndVectors :
    State.reset.dirbase.bl = false ∧
    { State.reset with dirbase := { Dirbase.reset with bl := true } }.dirbase.bl = true := ⟨rfl, rfl⟩
/-- A misaligned word, and an aligned one whose last byte is the first unpopulated one. -/
theorem witness_BadDataAccessTrapsBeforeAnyWrite :
    (let s := loads [(5, 0x2002)]
     dataAccess s (.ldlI 0 5 6) = some (0x2002, 4) ∧ ¬s.accessible 0x2002 4 ∧ DataReady s ∧ s.dirbase.bl = false ∧
       (effect (.ldlI 0 5 6) s).staticRefusal = none) ∧
    (let s := { start [(5, 0x2000)] [] with holes := [(0x2003, 0x2003)] }
     dataAccess s (.stl 6 0 5) = some (0x2000, 4) ∧ ¬s.accessible 0x2000 4 ∧ DataReady s ∧ s.dirbase.bl = false ∧
       (effect (.stl 6 0 5) s).staticRefusal = none) := by
  unfold State.accessible DataReady
  decide +kernel
theorem witness_PendingResultExceptionIsReported :
    let s := { start [(5, 0x2000)] [] with fpPending := true, fsr := 0x20 }
    (reportsResult (.faddSs false 2 3 4) = true ∧ (effect (.faddSs false 2 3 4) s).staticRefusal = none) ∧
      (reportsResult (.fstlI false 0 5 2) = true ∧ (effect (.fstlI false 0 5 2) s).staticRefusal = none) ∧
      s.mode = .single ∧ (s.armed = true → dbit (.faddSs false 2 3 4) ≠ some false) ∧ s.fpPending = true ∧
      fsrFte s.fsr = true ∧ s.dirbase.bl = false := by decide +kernel
/-- fld.l and ixfr with a report due: either choice, and with nothing pending both run; a misaligned pfld is refused. -/
theorem witness_PendingResultExceptionIsReported_sometimes :
    let s := { loads [(5, 0x2000)] with fpPending := true, fsr := 0x20 }
    let quiet := { s.tick with fpPending := false }
    mayReport (.fldlI false 0 5 2) = true ∧ mayReport (.ixfr 5 2) = true ∧ s.mode = .single ∧ s.fpPending = true ∧
      fsrFte s.fsr = true ∧ s.dirbase.bl = false ∧ (effect (.ixfr 5 2) quiet).staticRefusal = none ∧
      (Config.freeBool s.free = true ∨ Config.freeBool s.free = false) ∧
      (∃ u, exec (.fldlI false 0 5 2) quiet = .next u) ∧ (∃ u, exec (.ixfr 5 2) quiet = .next u) ∧
      exec (.pflddR true 5 5 2) quiet = .refused .restrictionF :=
  ⟨rfl, rfl, rfl, rfl, by decide +kernel, rfl, by decide +kernel, by cases Config.freeBool _ <;> simp,
    exec_of_completes (by decide +kernel), exec_of_completes (by decide +kernel), rfl⟩

/-- FTE set, and a NaN in f2 and f3 as single patterns, in f3:f2 as a double one. -/
def nans : State := { start [] [(2, 0x7FC00000), (3, 0x7FF80000)] with fsr := 0x20 }

/-- Each group of forms: two operands, a conversion, a move, a reciprocal, a compare, and a unit of a dual operation. -/
theorem witness_SourceExceptionTrapsBeforeAnyWrite :
    FpReady nans true ∧ nans.dirbase.bl = false ∧ fsrFte nans.fsr = true ∧
    (let a := nans.fread 2 .s
     let b := nans.fread 3 .s
     (fpAdd .s .s nans.fpEnv a b).se = true ∧ (fpSub .s .d nans.fpEnv a b).se = true ∧
     (fpMul .s .s nans.fpEnv a b).se = true ∧ (fpFix .s nans.fpEnv a).se = true ∧ (fpTrunc .s nans.fpEnv a).se = true ∧
     (fpCvt .s .d nans.fpEnv a).se = true ∧ (fpRcp .s .s nans.fpEnv a nans.drawn).se = true ∧
     (fpRsqr .s .d nans.fpEnv a nans.drawn).se = true ∧ (fpGt .s nans.fpEnv a b).se = true ∧
     (fpLe .s nans.fpEnv a b).se = true ∧ (fpEq .s nans.fpEnv a b).se = true) ∧
    (2 : Reg).toNat % 2 = 0 ∧ (4 : Reg).toNat % 2 = 0 ∧
    (let a := nans.fread 2 .d
     let b := nans.fread 4 .d
     (fpAdd .d .d nans.fpEnv a b).se = true ∧ (fpMul .d .d nans.fpEnv a b).se = true ∧
     (fpFix .d nans.fpEnv a).se = true ∧ (fpCvt .d .s nans.fpEnv a).se = true ∧ (fpLe .d nans.fpEnv a b).se = true) := by
  unfold FpReady
  decide +kernel
/-- A multiply finds its stages; a dual operation starts its multiplier on a NaN. -/
theorem witness_SourceExceptionTrapsBeforeAnyWrite_units :
    (regsOverlap .s 2 .s 6 = false ∧ nans.mPipe.ready true ≠ none ∧ nans.mPipe.ready false ≠ none) ∧
    (dualSourceOk (dataPathA 9) .s 2 6 = true ∧ nans.mPipe.ready Prec.s.threeStage = some nans.mPipe ∧
      ∃ o, o.se = true ∧
        dualAnswer fpMul nans.fpEnv .s (nans.dualOperand nans.mPipe .s 2 4 (dataPathA 9).m1)
          (nans.dualOperand nans.mPipe .s 2 4 (dataPathA 9).m2) = some o) :=
  ⟨by decide +kernel, by decide +kernel, by decide +kernel, _, (by decide +kernel), rfl⟩

theorem witness_AddsWritesSumAndFlags : CoreReady ready := by unfold CoreReady; decide +kernel
theorem witness_SubsWritesDifferenceAndFlags : CoreReady ready := by unfold CoreReady; decide +kernel
theorem witness_AdduAndSubuWriteCarries : CoreReady ready := by unfold CoreReady; decide +kernel
theorem witness_LogicalInstructionsWorkBitwise : CoreReady ready := by unfold CoreReady; decide +kernel
theorem witness_ShiftsMultiplyAndDivide : CoreReady ready := by unfold CoreReady; decide +kernel
/-- Both clauses in a step that completes the entry to dual-instruction mode. -/
theorem witness_ShrdShiftsTheDoubleWord :
    let s := { ready with armed := true }
    CoreReady s ∧ ((0 : Reg) = 0 ∧ (0 : Reg) = 0 ∧ (0 : Reg) = 0 → s.armed = true → true = true) ∧
      (s.armed = true → true = true) := by
  unfold CoreReady
  decide +kernel
/-- The last byte, halfword and word of the address space, and the last ones before a hole. -/
theorem witness_IntegerLoadsReadMemory :
    CoreReady ready ∧ ready.accessible 0xFFFFFFFF 1 ∧ ready.accessible 0xFFFFFFFE 2 ∧ ready.accessible 0xFFFFFFFC 4 ∧
    (loads []).accessible 0x201F 1 ∧ (loads []).accessible 0x201E 2 ∧ (loads []).accessible 0x201C 4 := by
  unfold CoreReady State.accessible
  decide +kernel
/-- Next to data that a pfld has read and not delivered. -/
theorem witness_IntegerStoresWriteMemory :
    let s := { stores [(5, 0x2000)] [] with lPipe := ⟨.val 0x2008 0 .d, .undef, .undef⟩ }
    CoreReady s ∧ MemoryCanonical s ∧
      (s.accessible 0x2007 1 ∧ s.pfldPending 0x2007 1 = false) ∧
      (s.accessible 0x2010 2 ∧ s.pfldPending 0x2010 2 = false) ∧
      s.accessible 0x2004 4 ∧ s.pfldPending 0x2004 4 = false := by
  unfold CoreReady MemoryCanonical State.accessible
  decide +kernel
theorem witness_FloatingLoadsReadMemory :
    let s := loads [(5, 0x2000), (7, 0x10)]
    DataReady s ∧ s.accessible 0x201C 4 ∧ s.accessible 0x2018 8 ∧ s.accessible 0x2010 16 ∧
      s.R 7 + s.R 5 = 0x2010 ∧ (true = true → (7 : Reg) ≠ 5) ∧ (30 : Reg).toNat % 2 = 0 ∧ (28 : Reg).toNat % 4 = 0 := by
  unfold DataReady State.accessible
  decide +kernel
theorem witness_FloatingStoresWriteMemory :
    let s := { stores [(5, 0x2000), (7, 0x10)] [] with lPipe := ⟨.val 0x2008 0 .d, .undef, .undef⟩ }
    DataReady s ∧ MemoryCanonical s ∧ s.R 7 + s.R 5 = 0x2010 ∧ (true = true → (7 : Reg) ≠ 5) ∧
      (s.accessible 0x2010 4 ∧ s.pfldPending 0x2010 4 = false) ∧
      (s.accessible 0x2000 8 ∧ s.pfldPending 0x2000 8 = false ∧ (30 : Reg).toNat % 2 = 0) ∧
      s.accessible 0x2010 16 ∧ s.pfldPending 0x2010 16 = false ∧ (28 : Reg).toNat % 4 = 0 := by
  unfold DataReady MemoryCanonical State.accessible
  decide +kernel
/-- The three clauses: an entry with a value, an undefined one to f0 and to another register. -/
theorem witness_PipelinedLoadsDeliverTheThirdPrevious :
    (let s := { loads [(5, 0x2000)] with lPipe := ⟨.undef, .undef, .val 0x2000 7 .d⟩ }
     DataReady s ∧ s.accessible 0x2018 Prec.d.bytes ∧ s.accessible 0x201C Prec.s.bytes ∧
       s.lPipe.q3 = .val 0x2000 7 .d ∧ Prec.d.fits 30 = true) ∧
    (let s := loads [(5, 0x2000), (7, 8)]
     DataReady s ∧ s.lPipe.q3 = .undef ∧ ((1 : Reg) = 0 ∨ (1 : Reg) = 1) ∧ ¬((2 : Reg) = 0 ∨ (2 : Reg) = 1) ∧
       Prec.d.fits 2 = true ∧ Prec.s.fits 31 = true ∧ s.accessible (s.R 7 + s.R 5) Prec.d.bytes ∧
       (true = true → (7 : Reg) ≠ 5)) := by
  unfold DataReady State.accessible
  decide +kernel
/-- Every pixel size; a masked pixel may overlap data of a pfld. -/
theorem witness_PixelStoreWritesTheMaskedPixels :
    (let s := { stores [(5, 0x2000)] [] with
       psr := { Psr.reset with pm := 0x5, ps := 1 }, lPipe := ⟨.val 0x2000 0 .s, .undef, .undef⟩ }
     DataReady { s with lPipe := ⟨.undef, .undef, .undef⟩ } ∧ MemoryCanonical s ∧ pixelBytes s.psr.ps = some 2 ∧
       (12 : Reg).toNat % 2 = 0 ∧ s.accessible 0x2008 8 ∧
       ∀ i < 8 / 2, s.psr.pm.getLsbD i = true → s.pfldPending (0x2008 + BitVec.ofNat 32 (i * 2)) 2 = false) ∧
    pixelBytes 0 = some 1 ∧ pixelBytes 2 = some 4 := by
  unfold DataReady MemoryCanonical State.accessible
  decide +kernel
theorem witness_FlushLeavesMemoryAndMarksTheBlock : CoreReady ready := by unfold CoreReady; decide +kernel
theorem witness_TransfersBetweenRegisterFiles : DataReady ready ∧ FpReady ready false := by
  unfold DataReady FpReady
  decide +kernel
/-- Both answers of each condition. -/
theorem witness_ConditionalBranchesGoWhereTheyShould :
    TransferReady ready ∧ ready.psr.cc = false ∧ { ready with psr := { Psr.reset with cc := true } }.psr.cc = true ∧
    ready.R 5 = ready.R 5 ∧ ready.R 5 ≠ ready.R 6 ∧ (31 : BitVec 5).toNat ≠ (ready.R 5).toNat ∧
    (0 : BitVec 5).toNat = (ready.R 0).toNat := by
  unfold TransferReady
  decide +kernel
theorem witness_BranchesAndCallsAreDelayed :
    TransferReady ready ∧ (5 : Reg) ≠ 1 ∧ (ready.R 5).toNat % 4 = 0 := by
  unfold TransferReady
  decide +kernel
/-- The clauses: a misaligned target, a jump, KNF, a slot by the list and by the frame, a lost context, a return. -/
theorem witness_BriJumpsOrReturnsFromTrap :
    TransferReady ready ∧ ((start [(5, 0x2002)] []).R 5).toNat % 4 ≠ 0 ∧
    ((ready.R 5).toNat % 4 = 0 ∧
      ¬(ready.psr.it = true ∨ ready.psr.inn = true ∨ ready.psr.iat = true ∨ ready.psr.dat = true ∨ ready.psr.ft = true)) ∧
    (let s := { ready with psr := { Psr.reset with ft := true, knf := true } }
     s.psr.ft = true ∧ s.psr.knf = true) ∧
    (let s := { ready with psr := { Psr.reset with dat := true }, slotFirs := [0x2004, 0x2000] }
     s.psr.dat = true ∧ s.psr.knf = false ∧ s.frames = [] ∧ s.R 5 ∈ s.slotFirs) ∧
    (let s := { ready with psr := { Psr.reset with dat := true }, slotFirs := [0x2000], frames := [.taken 0x2000 true] }
     s.frames = [.taken (s.R 5) true]) ∧
    (let s := { ready with psr := { Psr.reset with dat := true }, frames := [.lost, .taken 0x2000 true] }
     s.frames.head? = some .lost ∧ s.R 5 ∉ s.slotFirs) ∧
    (let s := { ready with psr := { Psr.reset with dat := true }, slotFirs := [0x2000], frames := [.taken 0x2000 false] }
     s.psr.dat = true ∧ s.psr.knf = false ∧ s.frames = [.taken (s.R 5) false] ∧ s.frames.head? ≠ some .lost) := by
  unfold TransferReady
  decide +kernel
theorem witness_BlaAddsAndBranchesOnTheOldLcc : TransferReady ready ∧ (5 : Reg) ≠ 0 := by
  unfold TransferReady
  decide +kernel
theorem witness_LoadControlReadsTheRegisters : CoreReady ready := by unfold CoreReady; decide +kernel
/-- Both modes. -/
theorem witness_StoreControlWritesByMode :
    CoreReady ready ∧ ready.psr.u = false ∧ { ready with psr := { Psr.reset with u := true } }.psr.u = true := by
  unfold CoreReady
  decide +kernel
theorem witness_TrapAndIntovrRaiseTheInstructionFault :
    TransferReady ready ∧ ready.dirbase.bl = false ∧ ready.epsr.of = false ∧
    (let s := { ready with epsr := { Epsr.reset with of := true } }
     TransferReady s ∧ s.dirbase.bl = false ∧ s.epsr.of = true) := by
  unfold TransferReady
  decide +kernel
theorem witness_LockAndUnlockHoldInterruptsOff :
    CoreReady ready ∧ (∃ t, exec .lock ready = .next t) ∧
    (let s := { ready with busLock := true }
     CoreReady s ∧ s.busLock = true ∧ ∃ t, exec .unlock s = .next t) :=
  ⟨by unfold CoreReady; decide +kernel, exec_of_completes (by decide +kernel), by unfold CoreReady; decide +kernel, rfl,
    exec_of_completes (by decide +kernel)⟩

/-- FTE and TI set, 1.0 in f2 and 2.0 in f4 (single), 1.0 in f9:f8 (double), full pipelines. -/
def fpReady (p : Prec) : State :=
  { piped p [(2, 0x3F800000), (4, 0x40000000), (9, 0x3FF00000)] with
    fsr := 0x22, mPipe := .three (.val 4 p) (.val 5 p) (.val 6 p) }

theorem witness_ScalarArithmeticWritesTheResult :
    let s := fpReady .s
    FpReady s false ∧ NoSourceTrap s (fpAdd .s .s s.fpEnv (s.fread 2 .s) (s.fread 4 .s)) ∧
      NoSourceTrap s (fpSub .s .d s.fpEnv (s.fread 2 .s) (s.fread 4 .s)) ∧
      NoSourceTrap s (fpMul .d .d s.fpEnv (s.fread 8 .d) (s.fread 8 .d)) ∧ (8 : Reg).toNat % 2 = 0 := by
  unfold FpReady NoSourceTrap
  decide +kernel
theorem witness_MultiplyLowKeepsTheLowProduct : FpReady ready true ∧ (30 : Reg).toNat % 2 = 0 := by
  unfold FpReady
  decide +kernel
/-- FTE clear; a positive normal operand (f2 = 1.0) and a negative one. -/
theorem witness_ReciprocalsWriteAMemberOfTheSet :
    FpReady ready true ∧ fsrFte ready.fsr = false ∧
      NoSourceTrap ready (fpRcp .s .s ready.fpEnv (ready.fread 2 .s) ready.drawn) ∧
      NoSourceTrap ready (fpRsqr .d .d ready.fpEnv (ready.fread 2 .d) ready.drawn) ∧ (2 : Reg).toNat % 2 = 0 ∧
      fpClass .s (ready.fread 2 .s) = .finite false 0x800000 (-23) ∧ false ∈ [false] ∧
      fpClass .s 0xFF000000 = .finite true 0x800000 104 ∧ true ∈ [false, true] :=
  ⟨by unfold FpReady; decide +kernel, by decide +kernel, (fun h => absurd h (by decide +kernel)),
    (fun h => absurd h (by decide +kernel)), by decide, by decide +kernel, by decide, by decide +kernel, by decide⟩
theorem witness_ConversionsToIntegerWriteTheLowHalf :
    let s := fpReady .s
    FpReady s false ∧ NoSourceTrap s (fpFix .s s.fpEnv (s.fread 2 .s)) ∧
      NoSourceTrap s (fpTrunc .d s.fpEnv (s.fread 8 .d)) ∧ (8 : Reg).toNat % 2 = 0 := by
  unfold FpReady NoSourceTrap
  decide +kernel
theorem witness_AdderMovesWriteTheConvertedValue :
    let s := fpReady .s
    FpReady s false ∧ NoSourceTrap s (fpCvt .s .d s.fpEnv (s.fread 2 .s)) ∧
      NoSourceTrap s (fpCvt .d .s s.fpEnv (s.fread 8 .d)) ∧ (8 : Reg).toNat % 2 = 0 := by
  unfold FpReady NoSourceTrap
  decide +kernel
theorem witness_DeliveryFromAPipeline :
    ((1 : Reg) = 0 ∨ (1 : Reg) = 1) ∧ ¬((2 : Reg) = 0 ∨ (2 : Reg) = 1) ∧ Prec.s ≠ .d := by decide
/-- A two-operand form, a move, and a conversion whose double-precision result has a free half. -/
theorem witness_PipelinedAdderAdvancesOneStage :
    (let s := fpReady .s
     FpReady s true ∧ NoSourceTrap s (fpAdd .s .s s.fpEnv (s.fread 2 .s) (s.fread 4 .s)) ∧
       NoSourceTrap s (fpCvt .s .s s.fpEnv (s.fread 2 .s)) ∧ ∃ u, deliver s s.aPipe.q3 6 .s = .ok u) ∧
    (let s := fpReady .d
     FpReady s true ∧ NoSourceTrap s (fpFix .d s.fpEnv (s.fread 8 .d)) ∧
       ∃ u, deliver s.tick s.aPipe.q3 6 .d = .ok u) := by
  unfold FpReady NoSourceTrap
  exact ⟨⟨by decide +kernel, by decide +kernel, by decide +kernel, _, rfl⟩, by decide +kernel, by decide +kernel, _, rfl⟩
theorem witness_ComparesSetCcAndInsertUndefined :
    let s := fpReady .s
    FpReady s true ∧ (fsrFte s.fsr = true → (fpGt .s s.fpEnv (s.fread 2 .s) (s.fread 4 .s)).se = false) ∧
      ∃ u, deliver s s.aPipe.q3 31 .s = .ok u := by
  unfold FpReady
  exact ⟨by decide +kernel, by decide +kernel, _, rfl⟩
/-- Three stages in flight, two in flight, none, and entries of another count, in the first and in the last stage. -/
theorem witness_PipelinedMultiplyAdvancesItsPipeline :
    (let s := fpReady .s
     FpReady s true ∧ ((6 : Reg) = 0 ∨ (2 : Reg) ≠ 6) ∧
       NoSourceTrap s (fpMul .s .s s.fpEnv (s.fread 2 .s) (s.fread 4 .s)) ∧
       s.mPipe.ready true = some s.mPipe ∧ (∃ u, deliver s s.mPipe.last 6 .s = .ok u) ∧ s.mPipe.ready false = none) ∧
    (let s := { fpReady .d with mPipe := .two (.val 4 .d) (.val 5 .d) }
     FpReady s true ∧ ((6 : Reg) = 0 ∨ (8 : Reg) ≠ 6 ∧ (8 : Reg) ≠ 6 + 1) ∧
       NoSourceTrap s (fpMul .d .d s.fpEnv (s.fread 8 .d) (s.fread 8 .d)) ∧
       s.mPipe.ready false = some s.mPipe ∧ ∃ u, deliver s s.mPipe.last 6 .d = .ok u) ∧
    (ready.mPipe.ready false = some (.two .undef .undef) ∧ ready.mPipe.ready true = some (.three .undef .undef .undef) ∧
      ∃ u, deliver ready .undef 6 .d = .ok u) ∧
    (MPipe.two .undef (.val 5 .d)).ready true = none ∧ (MPipe.two .undef .undef).ready true ≠ none ∧
    (MPipe.three .undef .undef (.val 5 .s)).ready false = none := by
  unfold FpReady NoSourceTrap
  exact ⟨⟨by decide +kernel, by decide +kernel, by decide +kernel, rfl, ⟨_, rfl⟩, rfl⟩,
    ⟨by decide +kernel, by decide +kernel, by decide +kernel, rfl, _, rfl⟩, ⟨rfl, rfl, _, rfl⟩, rfl, by decide, rfl⟩
/-- A unit reports no source exception. -/
def quiet (o : Option FpOut) : Bool := o.all fun x => !x.se

theorem se_of_quiet {m : Option FpOut} (h : quiet m = true) (o : FpOut) (e : m = some o) : o.se = false := by
  subst e
  simpa [quiet] using h

/-- Single precision with data path 1001, double precision with one whose operands are undefined. -/
theorem witness_DualOperationsStartBothUnits :
    (let s := { dualStart with fsr := 0x20 }
     FpReady s true ∧ Prec.s.fits 4 = true ∧ Prec.s.fits 12 = true ∧ Prec.s.fits 8 = true ∧
       dualSourceOk (dataPathA 9) .s 4 8 = true ∧ s.mPipe.ready Prec.s.threeStage = some s.mPipe ∧
       (let operand := s.dualOperand s.mPipe .s 4 12
        (∀ o, dualAnswer fpMul s.fpEnv .s (operand .src1) (operand .src2) = some o → o.se = false) ∧
        (∀ o, dualAnswer fpAdd s.fpEnv .s (operand .ares) (operand .mres) = some o → o.se = false)) ∧
       ∃ u, deliver s s.aPipe.q3 8 .s = .ok u) ∧
    (let s := { dualStart with mPipe := .two .undef .undef }
     FpReady s true ∧ Prec.d.fits 4 = true ∧ dualSourceOk (dataPathM 0) .d 4 8 = true ∧
       s.mPipe.ready Prec.d.threeStage = some s.mPipe ∧ fsrFte s.fsr = false ∧
       ∃ u, deliver s s.mPipe.last 8 .d = .ok u) := by
  unfold FpReady
  exact ⟨⟨by decide +kernel, rfl, rfl, rfl, rfl, rfl, ⟨se_of_quiet (by decide +kernel), se_of_quiet (by decide +kernel)⟩,
    _, rfl⟩, by decide +kernel, rfl, rfl, rfl, rfl, _, rfl⟩
theorem witness_M12apmMultipliesSourcesAndAddsResults :
    FpReady dualStart true ∧ dualStart.aPipe = ⟨.val 0x3F800000 .s, .val 0x40000000 .s, .val 0x40400000 .s⟩ ∧
    dualStart.mPipe = .three (.val 0x41200000 .s) (.val 0x41A00000 .s) (.val 0x41F00000 .s) ∧
    ((8 : Reg) = 0 ∨ (4 : Reg) ≠ 8) ∧ fsrFte dualStart.fsr = false := by
  unfold FpReady
  decide +kernel
theorem witness_MixedPrecisionDualOperationsAreRefused :
    ready.mode = .single ∧ (ready.armed = true → false = true) := by decide +kernel
theorem witness_GraphicsAddsAreModular :
    let s := piped .s []
    FpReady s false ∧ ((31 : Reg) = 0 ∨ (2 : Reg) ≠ 31) ∧ (∃ u, deliver s s.gPipe 31 .s = .ok u) ∧
      (30 : Reg).toNat % 2 = 0 ∧ ((30 : Reg) = 0 ∨ (2 : Reg) ≠ 30 ∧ (4 : Reg) ≠ 30) ∧
      ∃ u, deliver (piped .d []) (piped .d []).gPipe 30 .d = .ok u := by
  unfold FpReady
  exact ⟨by decide +kernel, by decide, ⟨_, rfl⟩, by decide, by decide, _, rfl⟩
/-- Every pixel size. -/
theorem witness_PixelAddsShiftAndLoadMerge :
    FpReady (piped .d []) false ∧ (30 : Reg).toNat % 2 = 0 ∧ (0 : BitVec 2) ≠ 3 ∧ (2 : BitVec 2) ≠ 3 ∧
      (piped .d []).psr.ps ≠ 3 ∧ ((30 : Reg) = 0 ∨ (2 : Reg) ≠ 30 ∧ (4 : Reg) ≠ 30) ∧
      ∃ u, deliver (piped .d []) (piped .d []).gPipe 30 .d = .ok u := by
  unfold FpReady
  exact ⟨by decide +kernel, by decide, by decide, by decide, by decide +kernel, by decide, _, rfl⟩
theorem witness_ZAddsAndFormUseMerge :
    FpReady (piped .d []) false ∧ (30 : Reg).toNat % 2 = 0 ∧ ((30 : Reg) = 0 ∨ (2 : Reg) ≠ 30 ∧ (4 : Reg) ≠ 30) ∧
      ∃ u, deliver (piped .d []) (piped .d []).gPipe 30 .d = .ok u := by
  unfold FpReady
  exact ⟨by decide +kernel, by decide, by decide, _, rfl⟩
theorem witness_ZChecksTakeMinimaAndMarkPm :
    FpReady (piped .d []) false ∧ (30 : Reg).toNat % 2 = 0 ∧
      ∃ u, deliver (piped .d []) (piped .d []).gPipe 30 .d = .ok u := by
  unfold FpReady
  exact ⟨by decide +kernel, by decide, _, rfl⟩

end Sys2Proof.Tests
end

section
/-!
PROOFS. What a step may write: the footprint of every instruction, as `traits` and the tables of writers give it, and
that nothing outside it changes (O7, O8, O9).
-/
namespace Sys2Proof.Machine

/-! ## Footprints -/

/-- The parts of the state that an instruction may write, of those that the frame statements name. -/
structure Footprint where
  rDests : List Reg
  fDests : List Reg
  cc : Bool
  lcc : Bool
  of : Bool
  sc : Bool
  pm : Bool
  ps : Bool
  mem : Bool

/-- Instructions that write PS: st.c to psr (R38). -/
def writesPS (i : Instr) : Bool :=
  match i with
  | .stc _ .psr => true
  | _ => false

/-- The footprint that the rows of `traits` and the tables of writers give an instruction. -/
def footprint (i : Instr) (s : State) : Footprint where
  rDests := (traits i).rDests
  fDests := (traits i).fDests ++ coreFDests s i
  cc := writesCC i
  lcc := writesLCC i
  of := writesOF i
  sc := writesSC i
  pm := writesPM i
  ps := writesPS i
  mem := storesMemory i

/-- What no instruction writes: the interrupt line, the populated memory, the halt address, and the processor type,
stepping and DCS of epsr. -/
def State.readOnly (s : State) : Bool × List (Nat × Nat) × Option Word × BitVec 8 × BitVec 5 × BitVec 4 :=
  (s.epsr.int, s.holes, s.haltPc, s.epsr.ptype, s.epsr.stepping, s.epsr.dcs)

/-- From `s` to `t` nothing outside the footprint `w` has changed. -/
structure Confined (w : Footprint) (s t : State) : Prop where
  R : ∀ j, j ∉ w.rDests → t.R j = s.R j
  FS : ∀ j, j ∉ w.fDests → t.FS j = s.FS j
  cc : w.cc = false → t.psr.cc = s.psr.cc
  lcc : w.lcc = false → t.psr.lcc = s.psr.lcc
  of : w.of = false → t.epsr.of = s.epsr.of
  sc : w.sc = false → t.psr.sc = s.psr.sc
  pm : w.pm = false → t.psr.pm = s.psr.pm
  ps : w.ps = false → t.psr.ps = s.psr.ps
  mem : w.mem = false → t.mem = s.mem
  readOnly : t.readOnly = s.readOnly

/-- The fields that `Confined` speaks of, beside the register files. -/
def State.besideRegisters (s : State) : Psr × Epsr × List Host.Cell × List (Nat × Nat) × Option Word :=
  (s.psr, s.epsr, s.mem, s.holes, s.haltPc)

/-- All the fields that `Confined` speaks of. -/
def State.framed (s : State) :
    Vector Word 32 × Vector Word 32 × Psr × Epsr × List Host.Cell × List (Nat × Nat) × Option Word :=
  (s.r, s.f, s.besideRegisters)

theorem Confined.self {w : Footprint} (s : State) : Confined w s s := by constructor <;> intros <;> rfl

theorem Eff.All.of_ok {P : State → Prop} {e : Eff} {t : State} {c : Ctl} (h : e.All P) (he : e = .ok t c) : P t := by
  rw [he] at h
  exact h

theorem Eff.All.of_trap {P : State → Prop} {e : Eff} {t : State} {c : Cause} (h : e.All P) (he : e = .trap c t) :
    P t := by
  rw [he] at h
  exact h

/-! ## One rule per write -/

section
variable {w : Footprint} {s t : State} (h : Confined w s t)
include h

/-- A change in the register files alone, within the footprint. -/
theorem Confined.registers {u : State} (e : u.besideRegisters = t.besideRegisters)
    (R : ∀ j, j ∉ w.rDests → u.R j = t.R j) (FS : ∀ j, j ∉ w.fDests → u.FS j = t.FS j) : Confined w s u := by
  simp only [State.besideRegisters, Prod.mk.injEq] at e
  obtain ⟨hpsr, hepsr, hmem, hholes, hhalt⟩ := e
  constructor
  case R => exact fun j hj => (R j hj).trans (h.R j hj)
  case FS => exact fun j hj => (FS j hj).trans (h.FS j hj)
  case cc => rw [hpsr]; exact h.cc
  case lcc => rw [hpsr]; exact h.lcc
  case of => rw [hepsr]; exact h.of
  case sc => rw [hpsr]; exact h.sc
  case pm => rw [hpsr]; exact h.pm
  case ps => rw [hpsr]; exact h.ps
  case mem => rw [hmem]; exact h.mem
  case readOnly =>
    have hu : u.readOnly = t.readOnly := by simp only [State.readOnly, hepsr, hholes, hhalt]
    exact hu.trans h.readOnly

/-- A change outside the fields that `Confined` speaks of. -/
theorem Confined.same {u : State} (e : u.framed = t.framed) : Confined w s u := by
  simp only [State.framed, Prod.mk.injEq] at e
  obtain ⟨hr, hf, hrest⟩ := e
  exact h.registers hrest (fun j _ => State.R_congr hr j) (fun j _ => State.FS_congr hf j)

theorem Confined.tick : Confined w s t.tick := h.same rfl

theorem Confined.loaded (ea : Word) (n : Nat) : Confined w s (t.loaded ea n) :=
  h.same (by simp [State.framed, State.besideRegisters])

theorem Confined.note (o : FpOut) : Confined w s (t.noteResult o) :=
  h.same (by simp [State.framed, State.besideRegisters])

theorem Confined.setR {i : Reg} (hi : i ∈ w.rDests) (v : Word) : Confined w s (t.setR i v) :=
  h.registers (by simp [State.besideRegisters]) (fun j hj => State.setR_R_ne t i v j fun e => hj (e ▸ hi))
    (fun j _ => State.FS_congr (State.setR_f t i v) j)

theorem Confined.setFS {i : Reg} (hi : i ∈ w.fDests) (v : Word) : Confined w s (t.setFS i v) :=
  h.registers (by simp [State.besideRegisters]) (fun j _ => State.R_congr (State.setFS_r t i v) j)
    (fun j hj => State.setFS_FS_ne t i v j fun e => hj (e ▸ hi))

theorem Confined.setFD {i : Reg} (hi : [i, i + 1] ⊆ w.fDests) (v : DWord) : Confined w s (t.setFD i v) :=
  (h.setFS (hi (by simp)) _).setFS (hi (by simp)) _

theorem Confined.setFQ {i : Reg} (hi : [i, i + 1, i + 2, i + 3] ⊆ w.fDests) (v : BitVec 128) :
    Confined w s (t.setFQ i v) := by
  have h3 : i + 2#5 + 1#5 = i + 3#5 := by rw [BitVec.add_assoc]; rfl
  exact (h.setFD (List.Subset.trans (by simp) hi) _).setFD (List.Subset.trans (by simp [h3]) hi) _

theorem Confined.fwrite {p : Prec} {i : Reg} (hi : p.regs i ⊆ w.fDests) (v : DWord) :
    Confined w s (t.fwrite i p v) := by
  cases p
  case s => exact h.setFS (hi (by simp [Prec.regs])) _
  case d => exact h.setFD hi v

/-- Autoincrement writes its base register, if anything. -/
theorem Confined.increment {auto : Bool} {base : Reg} (hb : (if auto then [base] else []) ⊆ w.rDests) (ea : Word) :
    Confined w s (t.increment auto base ea) := by
  cases auto
  case false => exact h
  case true => exact h.setR (hb (by simp)) ea

/-- A psr whose flags differ only where the footprint allows. -/
theorem Confined.withPsr (p : Psr) (cc : w.cc = false → p.cc = t.psr.cc) (lcc : w.lcc = false → p.lcc = t.psr.lcc)
    (sc : w.sc = false → p.sc = t.psr.sc) (pm : w.pm = false → p.pm = t.psr.pm)
    (ps : w.ps = false → p.ps = t.psr.ps) : Confined w s { t with psr := p } :=
  { h with
    cc := fun hw => (cc hw).trans (h.cc hw)
    lcc := fun hw => (lcc hw).trans (h.lcc hw)
    sc := fun hw => (sc hw).trans (h.sc hw)
    pm := fun hw => (pm hw).trans (h.pm hw)
    ps := fun hw => (ps hw).trans (h.ps hw) }

theorem Confined.setCC (hw : w.cc = true) (b : Bool) : Confined w s { t with psr := { t.psr with cc := b } } :=
  { h with cc := fun hf => by simp [hw] at hf }

theorem Confined.setLCC (hw : w.lcc = true) (b : Bool) : Confined w s { t with psr := { t.psr with lcc := b } } :=
  { h with lcc := fun hf => by simp [hw] at hf }

theorem Confined.setSC (hw : w.sc = true) (n : BitVec 5) : Confined w s { t with psr := { t.psr with sc := n } } :=
  { h with sc := fun hf => by simp [hw] at hf }

theorem Confined.setPM (hw : w.pm = true) (m : Byte) : Confined w s { t with psr := { t.psr with pm := m } } :=
  { h with pm := fun hf => by simp [hw] at hf }

theorem Confined.setOF (hw : w.of = true) (b : Bool) : Confined w s { t with epsr := { t.epsr with of := b } } :=
  { h with of := fun hf => by simp [hw] at hf }

/-- A store, with its notes for flush and fetch. -/
theorem Confined.setMem (hw : w.mem = true) (m : List Host.Cell) (undef stored : List Nat) :
    Confined w s { t with mem := m, undef := undef, stored := stored } :=
  { h with mem := fun hf => by simp [hw] at hf }

/-- flush, which leaves memory as it is (R163). -/
theorem Confined.setUndef (undef : List Nat) : Confined w s { t with undef := undef } := h.same rfl

/-- A delivery writes the registers of its destination, if anything (R291). -/
theorem Confined.delivered {u : State} {old : Entry} {p : Prec} {dest : Reg} (hd : p.regs dest ⊆ w.fDests)
    (hu : deliver t old dest p = .ok u) : Confined w s u := by
  rcases deliver_ok hu with ⟨_, rfl⟩ | ⟨v, _, rfl⟩ | ⟨_, rfl⟩
  · exact h
  · exact h.fwrite hd v
  · exact h.tick.fwrite hd _

/-! ## The parts of an effect -/

theorem Confined.report {k : Eff} (hk : k.All (Confined w s)) : (reportResult t k).All (Confined w s) :=
  Eff.all_reportResult (h.same rfl) hk

theorem Confined.mayReport {k : State → Eff}
    (hk : ∀ u, Confined w s u → u.lPipe = t.lPipe → (k u).All (Confined w s)) :
    (mayReportResult t k).All (Confined w s) :=
  Eff.all_mayReportResult (h.same rfl) (hk t h rfl) (hk t.tick h.tick rfl)

/-! ## Floating-point format -/

theorem Confined.scalarAdder {rp : Prec} {dest : Reg} (hd : rp.regs dest ⊆ w.fDests) {o : FpOut} :
    (scalarAdder rp dest o t).All (Confined w s) :=
  Eff.all_checkSource h (((h.same (u := { t with aPipe := Pipe3.clear }) rfl).fwrite hd _).note o)

theorem Confined.scalarMultiplier {rp : Prec} {dest : Reg} (hd : rp.regs dest ⊆ w.fDests) {o : FpOut} :
    (scalarMultiplier rp dest o t).All (Confined w s) :=
  Eff.all_checkSource h (((h.same (u := { t with mPipe := t.mPipe.clear }) rfl).fwrite hd _).note o)

theorem Confined.scalar2 {unit : Prec → Reg → FpOut → State → Eff} {rp : Prec} {dest : Reg}
    (hu : ∀ o, (unit rp dest o t).All (Confined w s)) {f : Prec → Prec → FpEnv → DWord → DWord → FpOut} {sp : Prec}
    {src1 src2 : Reg} : (scalar2 unit f sp rp src1 src2 dest t).All (Confined w s) :=
  Eff.all_demand (h.report (hu _))

theorem Confined.scalarToInt {rp : Prec} {dest : Reg} (hd : rp.regs dest ⊆ w.fDests)
    {f : Prec → FpEnv → DWord → FpOut} {sp : Prec} {src : Reg} :
    (scalarToInt f sp rp src dest t).All (Confined w s) := by
  refine Eff.all_demand (h.report (Eff.all_checkSource h ?_))
  have ht : Confined w s (if rp = .d then t.tick else t) := by
    split
    · exact h.tick
    · exact h
  exact ((ht.same (u := { (if rp = .d then t.tick else t) with aPipe := Pipe3.clear }) rfl).fwrite hd _).note _

theorem Confined.scalarMove {rp : Prec} {dest : Reg} (hd : rp.regs dest ⊆ w.fDests) {sp : Prec} {src : Reg} :
    (scalarMove sp rp src dest t).All (Confined w s) :=
  Eff.all_demand (h.report (h.scalarAdder hd))

theorem Confined.scalarSeed {rp : Prec} {dest : Reg} (hd : rp.regs dest ⊆ w.fDests)
    {f : Prec → Prec → FpEnv → DWord → DWord → FpOut} {sp : Prec} {src : Reg} :
    (scalarSeed f sp rp src dest t).All (Confined w s) :=
  Eff.all_demand (h.report (Eff.all_checkSource h
    (((h.same (u := { t.tick with mPipe := t.mPipe.clear }) rfl).fwrite hd _).note _)))

theorem Confined.fmlow {dest : Reg} (hd : [dest, dest + 1] ⊆ w.fDests) {d : Bool} {src1 src2 : Reg} :
    (effFmlowDd d src1 src2 dest t).All (Confined w s) :=
  Eff.all_demand (h.report ((h.same (u := { t.tick with mPipe := t.mPipe.clear }) rfl).setFD hd _))

theorem Confined.pipedAdder {rp : Prec} {dest : Reg} (hd : rp.regs dest ⊆ w.fDests) {new : Entry} {o : FpOut} :
    (pipedAdder rp dest new o t).All (Confined w s) := by
  refine Eff.all_checkSource h ?_
  split
  · trivial
  · rename_i u hu
    refine Confined.note (.same (h.delivered hd hu) ?_) _
    rfl

theorem Confined.pipedAdder2 {rp : Prec} {dest : Reg} (hd : rp.regs dest ⊆ w.fDests)
    {f : Prec → Prec → FpEnv → DWord → DWord → FpOut} {sp : Prec} {src1 src2 : Reg} :
    (pipedAdder2 f sp rp src1 src2 dest t).All (Confined w s) :=
  Eff.all_demand (h.report (h.pipedAdder hd))

theorem Confined.pipedMove {rp : Prec} {dest : Reg} (hd : rp.regs dest ⊆ w.fDests) {sp : Prec} {src : Reg} :
    (pipedMove sp rp src dest t).All (Confined w s) :=
  Eff.all_demand (h.report (h.pipedAdder hd))

theorem Confined.pipedToInt {rp : Prec} {dest : Reg} (hd : rp.regs dest ⊆ w.fDests)
    {f : Prec → FpEnv → DWord → FpOut} {sp : Prec} {src : Reg} :
    (pipedToInt f sp rp src dest t).All (Confined w s) := by
  refine Eff.all_demand (h.report ?_)
  cases rp
  case s => exact h.pipedAdder hd
  case d => exact h.tick.pipedAdder hd

theorem Confined.pipedCompare {sp : Prec} {dest : Reg} (hd : sp.regs dest ⊆ w.fDests) (hcc : w.cc = true)
    {f : Prec → FpEnv → DWord → DWord → FpCond} {invert : Bool} {src1 src2 : Reg} :
    (pipedCompare f invert sp src1 src2 dest t).All (Confined w s) := by
  refine Eff.all_demand (h.report (Eff.all_checkSource h ?_))
  split
  · trivial
  · rename_i u hu
    exact ((h.delivered hd hu).setCC hcc _).same rfl

theorem Confined.pipedMultiplier {rp : Prec} {dest : Reg} (hd : rp.regs dest ⊆ w.fDests) {three : Bool} {sp : Prec}
    {src1 src2 : Reg} : (pipedMultiplier three sp rp src1 src2 dest t).All (Confined w s) := by
  refine Eff.all_demand (Eff.all_demand (h.report ?_))
  split
  · trivial
  · refine Eff.all_checkSource h ?_
    split
    · trivial
    · rename_i u hu
      refine Confined.note (.same (h.delivered hd hu) ?_) _
      rfl

theorem Confined.dualOperation {p : Prec} {dest : Reg} (hd : p.regs dest ⊆ w.fDests)
    {f : Prec → Prec → FpEnv → DWord → DWord → FpOut} {toMul : Bool} {path : DataPath} {src1 src2 : Reg} :
    (dualOperation f toMul path p src1 src2 dest t).All (Confined w s) := by
  refine Eff.all_demand (Eff.all_demand (h.report ?_))
  split
  · trivial
  · refine Eff.all_checkSource h ?_
    split
    · trivial
    · rename_i u hu
      exact Confined.note (.note (.same (h.delivered hd hu) (by simp [State.framed, State.besideRegisters])) _) _

theorem Confined.graphicsScalar {p : Prec} {dest : Reg} (hd : p.regs dest ⊆ w.fDests) {v : DWord} :
    (graphicsScalar p dest v t).All (Confined w s) :=
  (h.same (u := { t with gPipe := .undef }) rfl).fwrite hd v

theorem Confined.graphicsPiped {p : Prec} {dest : Reg} (hd : p.regs dest ⊆ w.fDests) {v : DWord} :
    (graphicsPiped p dest v t).All (Confined w s) := by
  unfold Machine.graphicsPiped
  split
  · trivial
  · rename_i u hu
    exact (h.delivered hd hu).same rfl

theorem Confined.longScalar {p : Prec} {dest : Reg} (hd : p.regs dest ⊆ w.fDests) {f : DWord → DWord → DWord}
    {src1 src2 : Reg} : (longScalar f p src1 src2 dest t).All (Confined w s) :=
  Eff.all_demand (h.report (h.graphicsScalar hd))

theorem Confined.longPiped {p : Prec} {dest : Reg} (hd : p.regs dest ⊆ w.fDests) {f : DWord → DWord → DWord}
    {src1 src2 : Reg} : (longPiped f p src1 src2 dest t).All (Confined w s) :=
  Eff.all_demand (Eff.all_demand (h.report (h.graphicsPiped hd)))

theorem Confined.merged (v : DWord) : Confined w s (t.setMerge v) := h.same rfl

theorem Confined.addPixels {ending : Prec → Reg → DWord → State → Eff} {dest : Reg}
    (he : ∀ u v, Confined w s u → (ending .d dest v u).All (Confined w s)) {src1 src2 : Reg} :
    (addPixels ending src1 src2 dest t).All (Confined w s) := by
  unfold Machine.addPixels
  dsimp only
  split
  · trivial
  · exact he _ _ (h.merged _)

/-- PM and MERGE as a Z-buffer check leaves them. -/
theorem Confined.zChecked (hpm : w.pm = true) (m : Byte) :
    Confined w s { t with merge := 0, psr := { t.psr with pm := m } } := (h.setPM hpm m).same rfl

theorem Confined.fxfr {dest : Reg} (hd : dest ∈ w.rDests) {d : Bool} {src1 : Reg} :
    (effFxfr d src1 dest t).All (Confined w s) :=
  h.report ((h.same (u := { t with gPipe := .undef }) rfl).setR hd _)

/-! ## Core instructions -/

theorem Confined.setSum {dest : Reg} (hd : dest ∈ w.rDests) (hof : w.of = true) (hcc : w.cc = true) {v : Word}
    {fl : SumFlags} : (setSum t dest v fl).All (Confined w s) :=
  ((h.setOF hof fl.of).setCC hcc fl.cc).setR hd v

theorem Confined.setLogical {dest : Reg} (hd : dest ∈ w.rDests) (hcc : w.cc = true) {v : Word} :
    (setLogical t dest v).All (Confined w s) := (h.setCC hcc _).setR hd v

theorem Confined.shiftRight {dest : Reg} (hd : dest ∈ w.rDests) (hsc : w.sc = true) {n : BitVec 5} {v : Word} :
    (shiftRight t dest n v).All (Confined w s) := (h.setSC hsc n).setR hd _

theorem Confined.loadInt {dest : Reg} (hd : dest ∈ w.rDests) {n : Nat} {ext : BitVec 128 → Word} {ea : Word} :
    (loadInt n ext dest ea t).All (Confined w s) :=
  Eff.all_checkData h ((h.loaded ea n).setR hd _)

theorem Confined.storeData {auto : Bool} {base : Reg} (hb : (if auto then [base] else []) ⊆ w.rDests)
    (hm : w.mem = true) {n : Nat} {v : BitVec 128} {ea : Word} :
    (storeData n v auto base ea t).All (Confined w s) := by
  have ha : Confined w s t.accessed := h.same (by simp [State.framed, State.besideRegisters])
  exact Eff.all_checkData h (Eff.all_demand ((ha.setMem hm _ _ _).increment hb ea))

theorem Confined.loadFp {auto : Bool} {base : Reg} (hb : (if auto then [base] else []) ⊆ w.rDests)
    {write : State → BitVec 128 → State} (hw : ∀ u v, Confined w s u → Confined w s (write u v)) {n : Nat} {ea : Word} :
    (loadFp n write auto base ea t).All (Confined w s) :=
  h.mayReport fun _ hu _ => Eff.all_checkData hu ((hw _ _ (hu.loaded ea n)).increment hb ea)

theorem Confined.ixfr {dest : Reg} (hd : dest ∈ w.fDests) {src1 : Reg} :
    (effIxfr src1 dest t).All (Confined w s) := h.mayReport fun _ hu _ => hu.setFS hd _

theorem Confined.pixelStore {auto : Bool} {base : Reg} (hb : (if auto then [base] else []) ⊆ w.rDests)
    (hm : w.mem = true) (hpm : w.pm = true) {dest : Reg} {ea : Word} :
    (pixelStore auto base dest ea t).All (Confined w s) := by
  refine Eff.all_checkData h ?_
  split
  · trivial
  · rename_i b _
    obtain ⟨m, undef, stored, hs⟩ :=
      storePixels_keeps t.accessed ea b ((t.FD dest).setWidth 128) (enabledPixels t.psr.pm b)
    have ha : Confined w s t.accessed := h.same (by simp [State.framed, State.besideRegisters])
    refine Eff.all_demand ?_
    dsimp only
    rw [hs]
    exact ((ha.setMem hm m undef stored).setPM hpm _).increment hb ea

theorem Confined.flush {auto : Bool} {base : Reg} (hb : (if auto then [base] else []) ⊆ w.rDests)
    {off : BitVec 13} : (effFlush auto off base t).All (Confined w s) :=
  (h.setUndef _).increment hb _

theorem Confined.branchIf {taken : Bool} {target : Word} : (branchIf taken target t).All (Confined w s) :=
  Eff.all_demand h

theorem Confined.branchOrSkip {taken : Bool} {target : Word} : (branchOrSkip taken target t).All (Confined w s) :=
  Eff.all_demand h

theorem Confined.bri {src1 : Reg} : (effBri src1 t).All (Confined w s) := by
  refine Eff.all_demand (Eff.all_demand ?_)
  split
  · refine Eff.all_demand (Eff.all_demand (Eff.all_demand ?_))
    have hp : Confined w s { t with psr := t.psr.afterReturn } :=
      h.withPsr _ (fun _ => rfl) (fun _ => rfl) (fun _ => rfl) (fun _ => rfl) (fun _ => rfl)
    exact hp.same rfl
  · exact h

theorem Confined.bla {src2 : Reg} (hd : src2 ∈ w.rDests) (hlcc : w.lcc = true) {src1 : Reg} {off : BitVec 16} :
    (effBla src1 src2 off t).All (Confined w s) :=
  Eff.all_demand (Eff.all_demand ((h.setLCC hlcc _).setR hd _))

theorem Confined.intovr : (effIntovr t).All (Confined w s) := by
  refine Eff.all_demand ?_
  split
  · exact h
  · exact h

theorem Confined.ldc {dest : Reg} (hd : dest ∈ w.rDests) {c : CReg} : (effLdc c dest t).All (Confined w s) := by
  have hr : Confined w s (t.afterReadC c) := h.same (by simp [State.framed, State.besideRegisters])
  exact hr.setR hd _

/-- st.c to psr writes all its flags, in either mode (R243). -/
theorem Confined.writePsr (hcc : w.cc = true) (hlcc : w.lcc = true) (hsc : w.sc = true) (hpm : w.pm = true)
    (hps : w.ps = true) {v : Word} : (writePsr v t).All (Confined w s) := by
  have hp (p : Psr) : Confined w s { t with psr := p } :=
    h.withPsr p (by simp [hcc]) (by simp [hlcc]) (by simp [hsc]) (by simp [hpm]) (by simp [hps])
  unfold Machine.writePsr
  split
  · exact hp _
  · exact Eff.all_demand (hp _)

theorem Confined.writeDirbase {v : Word} : (writeDirbase v t).All (Confined w s) := by
  unfold Machine.writeDirbase
  split
  · exact h
  · exact Eff.all_demand (h.same rfl)

/-- Of the fields that `Confined` speaks of, st.c to epsr writes OF alone (R243). -/
theorem Confined.writeEpsr (hof : w.of = true) {v : Word} : (writeEpsr v t).All (Confined w s) := by
  unfold Machine.writeEpsr
  split
  · exact h
  · exact Eff.all_demand { h with of := fun hf => by simp [hof] at hf }

end

/-- The load-pipeline entry that a pfld delivers goes to the registers that `coreFDests` names (R164). -/
theorem Confined.deliveredLoad {w : Footprint} {i : Instr} {s t u : State} {p : Prec} {dest : Reg}
    (h : Confined w s t) (hp : (traits i).pfldDest = some (p, dest)) (hd : coreFDests s i ⊆ w.fDests)
    (hu : deliverLoad t s.lPipe.q3 dest p = .ok u) : Confined w s u := by
  unfold coreFDests at hd
  rw [hp] at hd
  rcases deliverLoad_ok hu with ⟨a, v, q, hq, hfit, rfl⟩ | ⟨_, _, rfl⟩ | ⟨hq, _, rfl⟩
  · simp only [hq, hfit, if_true] at hd
    exact h.fwrite hd v
  · exact h
  · simp only [hq] at hd
    refine h.tick.fwrite ?_ _
    cases hfit : p.fits dest
    · simpa [hfit, Prec.regs] using hd
    · simpa [hfit] using hd

theorem confined_pipedLoad {w : Footprint} {i : Instr} {s : State} {p : Prec} {auto : Bool} {base dest : Reg}
    (hb : (if auto then [base] else []) ⊆ w.rDests) (hp : (traits i).pfldDest = some (p, dest))
    (hd : coreFDests s i ⊆ w.fDests) {ea : Word} : (pipedLoad p auto base dest ea s).All (Confined w s) := by
  refine Confined.mayReport (.self s) fun t ht hl => Eff.all_checkData ht ?_
  split
  · trivial
  · rename_i u hu
    rw [hl] at hu
    refine Confined.increment (.same ((ht.loaded ea p.bytes).deliveredLoad hp hd hu) ?_) hb ea
    rfl

theorem confined_stc (src1 : Reg) (c : CReg) (s : State) :
    (effStc src1 c s).All (Confined (footprint (.stc src1 c) s) s) := by
  have h : Confined (footprint (.stc src1 c) s) s s := .self s
  cases c
  case fir => exact h
  case fsr => exact h.same rfl
  case psr => exact h.writePsr rfl rfl rfl rfl rfl
  case dirbase => exact h.writeDirbase
  case epsr => exact h.writeEpsr rfl
  case db =>
    show (if s.psr.u then Eff.ok s .seq else _).All _
    split
    · exact h
    · exact h.same rfl

/-! ## Every instruction -/

/-- No effect changes anything outside the footprint of its instruction. -/
theorem effect_confined (i : Instr) (s : State) : (effect i s).All (Confined (footprint i s) s) := by
  have h : Confined (footprint i s) s s := .self s
  have hf : (traits i).fDests ⊆ (footprint i s).fDests := List.subset_append_left _ _
  have hl : coreFDests s i ⊆ (footprint i s).fDests := List.subset_append_right _ _
  have hr : (traits i).rDests ⊆ (footprint i s).rDests := List.Subset.refl _
  cases i
  all_goals
    dsimp only [effect, traits, Traits.core, Traits.coreCc, Traits.branch, Traits.load, Traits.arith, Traits.graphics,
      Traits.compare, Traits.zCheck, Traits.shrd] at hf hr ⊢
  case faddSs | faddSd | faddDd | fsubSs | fsubSd | fsubDd => exact h.scalar2 fun _ => h.scalarAdder hf
  case fmulSs | fmulSd | fmulDd => exact h.scalar2 fun _ => h.scalarMultiplier hf
  case fixSs | fixSd | fixDd | ftruncSs | ftruncSd | ftruncDd => exact h.scalarToInt hf
  case famovSs | famovSd | famovDs | famovDd | fmovSd | fmovDs => exact h.scalarMove hf
  case frcpSs | frcpSd | frcpDd | frsqrSs | frsqrSd | frsqrDd => exact h.scalarSeed hf
  case fmlowDd => exact h.fmlow hf
  case pfaddSs | pfaddSd | pfaddDd | pfsubSs | pfsubSd | pfsubDd => exact h.pipedAdder2 hf
  case pfamovSs | pfamovSd | pfamovDs | pfamovDd | pfmovSd | pfmovDs => exact h.pipedMove hf
  case pfixSs | pfixSd | pfixDd | pftruncSs | pftruncSd | pftruncDd => exact h.pipedToInt hf
  case pfgtSs | pfgtDd | pfleSs | pfleDd | pfeqSs | pfeqDd => exact h.pipedCompare hf rfl
  case pfmulSs | pfmulSd | pfmulDd | pfmul3Dd => exact h.pipedMultiplier hf
  case pfamSs | pfamDd | pfsmSs | pfsmDd | pfmamSs | pfmamDd | pfmsmSs | pfmsmDd => exact h.dualOperation hf
  case pfamSd | pfsmSd | pfmamSd | pfmsmSd => exact trivial
  case fiaddSs | fiaddDd | fisubSs | fisubDd | fmovSs | fmovDd => exact h.longScalar hf
  case pfiaddSs | pfiaddDd | pfisubSs | pfisubDd | pfmovSs | pfmovDd => exact h.longPiped hf
  case faddp => exact Eff.all_demand (h.report (h.addPixels fun _ _ hu => hu.graphicsScalar hf))
  case pfaddp => exact Eff.all_demand (Eff.all_demand (h.report (h.addPixels fun _ _ hu => hu.graphicsPiped hf)))
  case faddz | form => exact Eff.all_demand (h.report ((h.merged _).graphicsScalar hf))
  case pfaddz | pform => exact Eff.all_demand (Eff.all_demand (h.report ((h.merged _).graphicsPiped hf)))
  case fzchkl | fzchks => exact Eff.all_demand (h.report ((h.zChecked rfl _).graphicsScalar hf))
  case pfzchkl | pfzchks => exact Eff.all_demand (h.report ((h.zChecked rfl _).graphicsPiped hf))
  case fxfr => exact h.fxfr (hr (List.mem_singleton_self _))
  case adduR | adduI | subuR | subuI | addsR | addsI | subsR | subsI =>
    exact h.setSum (hr (List.mem_singleton_self _)) rfl rfl
  case andR | andI | andh | andnotR | andnotI | andnoth | orR | orI | orh | xorR | xorI | xorh =>
    exact h.setLogical (hr (List.mem_singleton_self _)) rfl
  case shrR | shrI => exact h.shiftRight (hr (List.mem_singleton_self _)) rfl
  case shlR | shlI | shraR | shraI | shrd | mov => exact h.setR (hr (List.mem_singleton_self _)) _
  case ldbR | ldbI | ldsR | ldsI | ldlR | ldlI => exact h.loadInt (hr (List.mem_singleton_self _))
  case stb | sts | stl => exact h.storeData (List.nil_subset _) rfl
  case fldlR => exact Eff.all_demand (h.loadFp hr fun _ _ hu => hu.setFS (hf (List.mem_singleton_self _)) _)
  case fldlI => exact h.loadFp hr fun _ _ hu => hu.setFS (hf (List.mem_singleton_self _)) _
  case flddR => exact Eff.all_demand (Eff.all_demand (h.loadFp hr fun _ _ hu => hu.setFD hf _))
  case flddI => exact Eff.all_demand (h.loadFp hr fun _ _ hu => hu.setFD hf _)
  case fldqR => exact Eff.all_demand (Eff.all_demand (h.loadFp hr fun _ _ hu => hu.setFQ hf _))
  case fldqI => exact Eff.all_demand (h.loadFp hr fun _ _ hu => hu.setFQ hf _)
  case fstlR => exact Eff.all_demand (h.report (h.storeData hr rfl))
  case fstlI => exact h.report (h.storeData hr rfl)
  case fstdR | fstqR => exact Eff.all_demand (Eff.all_demand (h.report (h.storeData hr rfl)))
  case fstdI | fstqI => exact Eff.all_demand (h.report (h.storeData hr rfl))
  case pfldlR | pflddR => exact Eff.all_demand (confined_pipedLoad hr rfl hl)
  case pfldlI | pflddI => exact confined_pipedLoad hr rfl hl
  case pstd => exact Eff.all_demand (h.report (h.pixelStore hr rfl rfl))
  case flush => exact h.flush hr
  case ixfr => exact h.ixfr (hf (List.mem_singleton_self _))
  case bc | bnc | bteR | bteI | btneR | btneI => exact h.branchIf
  case bcT | bncT => exact h.branchOrSkip
  case br | trap => exact Eff.all_demand h
  case call => exact Eff.all_demand (Eff.all_demand (h.setR (hr (List.mem_singleton_self _)) _))
  case calli =>
    exact Eff.all_demand (Eff.all_demand (Eff.all_demand (Eff.all_demand (h.setR (hr (List.mem_singleton_self _)) _))))
  case bri => exact h.bri
  case bla => exact h.bla (hr (List.mem_singleton_self _)) rfl
  case ldc => exact h.ldc (hr (List.mem_singleton_self _))
  case stc => exact confined_stc _ _ _
  case intovr => exact h.intovr
  case lock | unlock => exact h.same rfl
  case nop | fnop => exact h

/-! ## The end of the step -/

@[simp] theorem pick_unchanged_fp {α : Type} [DecidableEq α] (old core : α) : pick old old core = core := if_pos rfl

@[simp] theorem pick_unchanged_core {α : Type} [DecidableEq α] (old fp : α) : pick old fp old = fp := by
  unfold pick
  split
  · exact Eq.symm ‹_›
  · rfl

theorem Confined.complete {w : Footprint} {s u : State} (h : Confined w s u) (m : ModeSel) (c : Ctl) :
    Confined w s (s.complete u m c) :=
  h.same (by simp [State.framed, State.besideRegisters])

/-- Trap entry writes no register, none of the flags that `Confined` speaks of, and no memory (R405). -/
theorem Confined.enterTrap {w : Footprint} {s u : State} (h : Confined w s u) (c : Cause) (fir : Word) (knf : Bool) :
    Confined w s (u.enterTrap c fir knf) :=
  (h.withPsr (u.enterTrap c fir knf).psr (fun _ => rfl) (fun _ => rfl) (fun _ => rfl) (fun _ => rfl)
    (fun _ => rfl)).same rfl

/-- The writes of a core half beside a half that writes nothing (R384). -/
theorem Confined.overlay_core {w : Footprint} {s u : State} (h : Confined w s u) : Confined w s (s.overlay s u) :=
  { h with
    R := fun j hj => by rw [State.overlay_R, if_pos rfl, h.R j hj]
    FS := fun j hj => by rw [State.overlay_FS, if_pos rfl, h.FS j hj]
    cc := fun hw => (pick_unchanged_fp _ _).trans (h.cc hw)
    pm := fun hw => (pick_unchanged_fp _ _).trans (h.pm hw) }

/-- The writes of a floating-point half beside a half that writes nothing (R384). -/
theorem Confined.overlay_fp {w : Footprint} {s u : State} (h : Confined w s u) (n : Nat) :
    Confined w s (s.overlay u { s with free := n }) :=
  { Confined.self s with
    R := fun j hj => by rw [State.overlay_R, if_pos (h.R j hj)]; rfl
    FS := fun j hj => by rw [State.overlay_FS, if_pos (h.FS j hj)]; rfl
    cc := fun hw => (pick_unchanged_core _ _).trans (h.cc hw)
    pm := fun hw => (pick_unchanged_core _ _).trans (h.pm hw) }

/-- No instruction changes anything outside its footprint, whether it completes or traps. -/
theorem exec_confined {i : Instr} {s t : State} (h : exec i s = .next t) : Confined (footprint i s) s t := by
  rcases exec_next h with ⟨u, c, m, he, rfl | rfl | rfl⟩ | ⟨u, c, he, _, rfl | rfl | rfl⟩
  · exact ((effect_confined i s).of_ok he).complete m c
  · exact (((effect_confined i s).of_ok he).overlay_fp _).complete m .seq
  · exact ((effect_confined i s).of_ok he).overlay_core.complete m c
  · exact ((effect_confined i s).of_trap he).enterTrap _ _ _
  · exact ((effect_confined i s).of_trap he).tick.overlay_core.enterTrap _ _ _
  · exact ((effect_confined i s).of_trap he).tick.enterTrap _ _ _

/-- An instruction that is not st.c to psr leaves PS out of its footprint. -/
theorem writesPS_eq_false {i : Instr} (h : ∀ r, i ≠ .stc r .psr) : writesPS i = false := by
  unfold writesPS
  split
  · exact absurd rfl (h _)
  · rfl

/-- Settles O8: the footprint of an instruction holds the flags and the memory that the tables of writers name. -/
theorem flagsAndMemoryHaveOnlyTheirWriters : Obligations.FlagsAndMemoryHaveOnlyTheirWriters := by
  intro i s t h
  have k := exec_confined h
  exact ⟨k.cc, k.lcc, k.of, k.sc, k.pm, fun hi => k.ps (writesPS_eq_false hi), k.mem⟩

/-- Settles O9: the footprint of an instruction holds the registers that its row and `coreFDests` name. -/
theorem instructionsWriteOnlyTheirNamedRegisters : Obligations.InstructionsWriteOnlyTheirNamedRegisters := by
  intro i s t h
  have k := exec_confined h
  exact ⟨k.R, fun j hj hc => k.FS j fun hm => (List.mem_append.1 hm).elim hj hc⟩

/-! ## Pairs and the whole step -/

/-- A pair that ends in a next state has been retired: its halves are of the right kinds (R383). -/
theorem runPair_next {fi ci : Instr} {s t : State} (h : runPair fi ci s = .next t) :
    retirePair ((dbit fi).getD true) (isControl ci) (pairConflict s fi ci) s (effect fi s) (effect ci) = .next t := by
  unfold runPair at h
  split at h
  · exact h
  · cases h

@[simp] theorem State.complete_readOnly (s u : State) (m : ModeSel) (c : Ctl) :
    (s.complete u m c).readOnly = u.readOnly := by simp [State.readOnly]

@[simp] theorem State.enterTrap_readOnly (s : State) (c : Cause) (fir : Word) (knf : Bool) :
    (s.enterTrap c fir knf).readOnly = s.readOnly := rfl

@[simp] theorem State.overlay_readOnly (s sf sc : State) : (s.overlay sf sc).readOnly = sc.readOnly := rfl

@[simp] theorem State.tick_readOnly (s : State) : s.tick.readOnly = s.readOnly := rfl

/-- What a pair keeps of the read-only state is what its core half, or its trapping floating-point half, keeps. -/
theorem runPair_readOnly {fi ci : Instr} {s t : State} (h : runPair fi ci s = .next t) : t.readOnly = s.readOnly := by
  rcases retirePair_next (runPair_next h) with
    ⟨sf, cf, sc, c, m, _, hc, _, _, rfl⟩ | ⟨sf, c, hf, _, rfl⟩ | ⟨sf, cf, sc, c, _, hc, ⟨_, rfl⟩ | ⟨_, rfl⟩⟩
  · rw [State.complete_readOnly, State.overlay_readOnly]
    exact ((effect_confined ci _).of_ok hc).readOnly
  · exact ((effect_confined fi s).of_trap hf).readOnly
  · exact ((effect_confined ci _).of_trap hc).readOnly
  · exact ((effect_confined ci _).of_trap hc).readOnly

theorem step_readOnly {s t : State} (h : step s = .next t) : t.readOnly = s.readOnly := by
  rcases step_next h with ⟨c, _, rfl⟩ | ⟨i, _, he⟩ | ⟨fi, ci, _, hp⟩
  · exact State.enterTrap_readOnly s c _ _
  · exact (exec_confined he).readOnly
  · exact runPair_readOnly hp

/-- Settles O7: every instruction and every pair keeps the read-only state. -/
theorem stepKeepsReadOnlyState : Obligations.StepKeepsReadOnlyState := by
  intro s t h
  have k := step_readOnly h
  simp only [State.readOnly, Prod.mk.injEq] at k
  exact k

end Sys2Proof.Machine
end

section
/-!
PROOFS. Where control goes: every target is a multiple of 4 when pc is, so pc and the pending target stay on four-byte
boundaries (O4).
-/
namespace Sys2Proof.Machine

/-! ## Aligned words -/

/-- Sums of multiples of 4 are multiples of 4, modulo 2^32 too. -/
theorem add_mod_four {a b : Word} (ha : a.toNat % 4 = 0) (hb : b.toNat % 4 = 0) : (a + b).toNat % 4 = 0 := by
  rw [BitVec.toNat_add]
  omega

theorem ofInt_mod_four (x : Int) : (BitVec.ofInt 32 (4 * x)).toNat % 4 = 0 := by
  rw [BitVec.toNat_ofInt]
  omega

theorem Mode.width_mod_four (m : Mode) : m.width.toNat % 4 = 0 := by cases m <;> rfl

section
variable {s : State} (h : s.pc.toNat % 4 = 0)
include h

theorem State.instAddr_mod_four : s.instAddr.toNat % 4 = 0 := by
  unfold State.instAddr
  cases s.mode
  case single => exact h
  case dual => exact add_mod_four h rfl

theorem State.brx26_mod_four (off : BitVec 26) : (s.brx26 off).toNat % 4 = 0 := by
  rw [State.brx26, branchDisp26_eq]
  exact add_mod_four (add_mod_four (State.instAddr_mod_four h) rfl) (ofInt_mod_four _)

theorem State.brx16_mod_four (off : BitVec 16) : (s.brx16 off).toNat % 4 = 0 := by
  rw [State.brx16, branchDisp16_eq]
  exact add_mod_four (add_mod_four (State.instAddr_mod_four h) rfl) (ofInt_mod_four _)

theorem State.afterSlot_mod_four : s.afterSlot.toNat % 4 = 0 :=
  add_mod_four (add_mod_four h (Mode.width_mod_four _)) (Mode.width_mod_four _)

end

/-! ## Where an effect sends control -/

/-- A transfer goes to a multiple of 4. -/
def Ctl.Aligned : Ctl → Prop
  | .seq => True
  | .jump a => a.toNat % 4 = 0
  | .delayed a _ => a.toNat % 4 = 0
  | .skip => True

/-- If the effect completes, control goes to a multiple of 4. -/
def Eff.CtlAligned : Eff → Prop
  | .ok _ c => c.Aligned
  | .trap _ _ => True
  | .refuse _ => True

theorem ctlAligned_demand {b : Bool} {r : Refusal} {k : Eff} (hk : b = true → k.CtlAligned) :
    (demand b r k).CtlAligned := by
  cases b
  case false => trivial
  case true => exact hk rfl

theorem ctlAligned_report {s : State} {k : Eff} (hk : k.CtlAligned) : (reportResult s k).CtlAligned := by
  unfold reportResult
  split
  · trivial
  · exact hk

theorem ctlAligned_mayReport {s : State} {k : State → Eff} (hk : ∀ t, (k t).CtlAligned) :
    (mayReportResult s k).CtlAligned := by
  unfold mayReportResult
  split
  · split
    · trivial
    · exact hk _
  · exact hk _

theorem ctlAligned_data {s : State} {ea : Word} {n : Nat} {k : Eff} (hk : k.CtlAligned) :
    (checkData s ea n k).CtlAligned := by
  unfold checkData
  split
  · exact hk
  · trivial

theorem ctlAligned_storeData (n : Nat) (v : BitVec 128) (auto : Bool) (base : Reg) (ea : Word) (s : State) :
    (storeData n v auto base ea s).CtlAligned := ctlAligned_data (ctlAligned_demand fun _ => trivial)

theorem ctlAligned_loadFp (n : Nat) (write : State → BitVec 128 → State) (auto : Bool) (base : Reg) (ea : Word)
    (s : State) : (loadFp n write auto base ea s).CtlAligned := ctlAligned_mayReport fun _ => ctlAligned_data trivial

theorem ctlAligned_pipedLoad (p : Prec) (auto : Bool) (base dest : Reg) (ea : Word) (s : State) :
    (pipedLoad p auto base dest ea s).CtlAligned := by
  refine ctlAligned_mayReport fun t => ctlAligned_data ?_
  split
  · trivial
  · trivial

theorem ctlAligned_pixelStore (auto : Bool) (base dest : Reg) (ea : Word) (s : State) :
    (pixelStore auto base dest ea s).CtlAligned := by
  refine ctlAligned_data ?_
  split
  · trivial
  · exact ctlAligned_demand fun _ => trivial

theorem ctlAligned_stc (src1 : Reg) (c : CReg) (s : State) : (effStc src1 c s).CtlAligned := by
  cases c
  case fir | fsr => trivial
  case psr | dirbase | epsr =>
    simp only [effStc, writeC, writePsr, writeDirbase, writeEpsr]
    split
    · trivial
    · exact ctlAligned_demand fun _ => trivial
  case db =>
    simp only [effStc, writeC]
    split
    · trivial
    · trivial

theorem ctlAligned_branchIf {target : Word} (ht : target.toNat % 4 = 0) (taken : Bool) (s : State) :
    (branchIf taken target s).CtlAligned := by
  refine ctlAligned_demand fun _ => ?_
  cases taken
  case false => trivial
  case true => exact ht

theorem ctlAligned_branchOrSkip {target : Word} (ht : target.toNat % 4 = 0) (taken : Bool) (s : State) :
    (branchOrSkip taken target s).CtlAligned := by
  refine ctlAligned_demand fun _ => ?_
  cases taken
  case false => trivial
  case true => exact ht

/-- A register target that is not refused (R217). -/
theorem targetOk_mod_four {a : Word} (h : targetOk a = true) : a.toNat % 4 = 0 := of_decide_eq_true h

/-- A register target is checked before the transfer, of a trap return too (R217). -/
theorem ctlAligned_bri (src1 : Reg) (s : State) : (effBri src1 s).CtlAligned := by
  refine ctlAligned_demand fun _ => ctlAligned_demand fun ht => ?_
  split
  · exact ctlAligned_demand fun _ => ctlAligned_demand fun _ => ctlAligned_demand fun _ => targetOk_mod_four ht
  · exact targetOk_mod_four ht

theorem ctlAligned_calli (src1 : Reg) (s : State) : (effCalli src1 s).CtlAligned :=
  ctlAligned_demand fun _ => ctlAligned_demand fun _ => ctlAligned_demand fun _ => ctlAligned_demand fun ht =>
    targetOk_mod_four ht

theorem ctlAligned_bla {s : State} (h : s.pc.toNat % 4 = 0) (src1 src2 : Reg) (off : BitVec 16) :
    (effBla src1 src2 off s).CtlAligned := by
  refine ctlAligned_demand fun _ => ctlAligned_demand fun _ => ?_
  show (if s.psr.lcc then s.brx16 off else s.afterSlot).toNat % 4 = 0
  split
  · exact State.brx16_mod_four h off
  · exact State.afterSlot_mod_four h

theorem ctlAligned_intovr (s : State) : (effIntovr s).CtlAligned := by
  refine ctlAligned_demand fun _ => ?_
  split
  · trivial
  · trivial

/-- A floating-point-format instruction goes on in sequence. -/
theorem Eff.FpHalf.ctlAligned {s : State} {e : Eff} (h : e.FpHalf s) : e.CtlAligned := by
  cases e
  case ok u c =>
    obtain ⟨_, rfl⟩ := h
    trivial
  case trap | refuse => trivial

/-- From an aligned pc every instruction sends control to a multiple of 4. -/
theorem effect_ctlAligned (i : Instr) {s : State} (h : s.pc.toNat % 4 = 0) : (effect i s).CtlAligned := by
  by_cases hd : (dbit i).isSome = true
  · exact (effect_fpHalf i s hd).ctlAligned
  cases i
  case bc | bnc => exact ctlAligned_branchIf (State.brx26_mod_four h _) _ _
  case bteR | bteI | btneR | btneI => exact ctlAligned_branchIf (State.brx16_mod_four h _) _ _
  case bcT | bncT => exact ctlAligned_branchOrSkip (State.brx26_mod_four h _) _ _
  case br => exact ctlAligned_demand fun _ => State.brx26_mod_four h _
  case call => exact ctlAligned_demand fun _ => ctlAligned_demand fun _ => State.brx26_mod_four h _
  case calli => exact ctlAligned_calli _ _
  case bri => exact ctlAligned_bri _ _
  case bla => exact ctlAligned_bla h _ _ _
  case trap => exact ctlAligned_demand fun _ => trivial
  case intovr => exact ctlAligned_intovr _
  case ldbR | ldbI | ldsR | ldsI | ldlR | ldlI => exact ctlAligned_data trivial
  case stb | sts | stl => exact ctlAligned_storeData _ _ _ _ _ _
  case fldlI =>
    dsimp only [effect, effFldlI]
    exact ctlAligned_loadFp _ _ _ _ _ _
  case fldlR | flddI | fldqI => exact ctlAligned_demand fun _ => ctlAligned_loadFp _ _ _ _ _ _
  case flddR | fldqR => exact ctlAligned_demand fun _ => ctlAligned_demand fun _ => ctlAligned_loadFp _ _ _ _ _ _
  case fstlI => exact ctlAligned_report (ctlAligned_storeData _ _ _ _ _ _)
  case fstlR | fstdI | fstqI => exact ctlAligned_demand fun _ => ctlAligned_report (ctlAligned_storeData _ _ _ _ _ _)
  case fstdR | fstqR =>
    exact ctlAligned_demand fun _ => ctlAligned_demand fun _ => ctlAligned_report (ctlAligned_storeData _ _ _ _ _ _)
  case pfldlR | pflddR => exact ctlAligned_demand fun _ => ctlAligned_pipedLoad _ _ _ _ _ _
  case pfldlI | pflddI => exact ctlAligned_pipedLoad _ _ _ _ _ _
  case pstd => exact ctlAligned_demand fun _ => ctlAligned_report (ctlAligned_pixelStore _ _ _ _ _)
  case ixfr =>
    dsimp only [effect, effIxfr]
    exact ctlAligned_mayReport fun _ => trivial
  case stc => exact ctlAligned_stc _ _ _
  case adduR | adduI | subuR | subuI | addsR | addsI | subsR | subsI | shrR | shrI | shlR | shlI | shraR | shraI | shrd =>
    exact trivial
  case andR | andI | andh | andnotR | andnotI | andnoth | orR | orI | orh | xorR | xorI | xorh => exact trivial
  case mov | nop | ldc | flush | lock | unlock => exact trivial
  all_goals exact absurd rfl hd

/-! ## The step -/

/-- Every floating-point-format instruction has a D-bit, so every instruction may stand in a half of a pair (R383). -/
theorem dbit_isSome_of_fp {i : Instr} (h : (traits i).fp = true) : (dbit i).isSome = true := by
  cases i <;> cases h <;> rfl

/-- No effect touches the pending target: the end of the step does (R210). -/
theorem effect_delay {i : Instr} {s u : State} {c : Ctl} (h : effect i s = .ok u c) : u.delay = s.delay := by
  cases hfp : (traits i).fp
  case false =>
    have hc := effect_coreHalf i s hfp
    rw [h] at hc
    exact hc.delay
  case true =>
    have hf := effect_fpHalf i s (dbit_isSome_of_fp hfp)
    rw [h] at hf
    exact hf.1.delay

/-- With no target pending, only pc counts. -/
theorem pcAligned_of_no_delay {s : State} (hpc : s.pc.toNat % 4 = 0) (hd : s.delay = none) : PcAligned s :=
  ⟨hpc, fun t ht => by simp [hd] at ht⟩

/-- Trap entry goes to the trap vector and drops the pending target (R405). -/
theorem State.enterTrap_pcAligned (s : State) (c : Cause) (fir : Word) (knf : Bool) :
    PcAligned (s.enterTrap c fir knf) :=
  pcAligned_of_no_delay (show Config.trapVector.toNat % 4 = 0 by decide) rfl

/-- Moving on keeps pc aligned: it takes the pending target, the next address or the target of a transfer (R210). -/
theorem State.complete_pcAligned {s : State} (h : PcAligned s) {u : State} (hu : u.delay = s.delay) (m : ModeSel)
    {c : Ctl} (hc : c.Aligned) : PcAligned (s.complete u m c) := by
  obtain ⟨hpc, hdelay⟩ := h
  have hw (k : Mode) : (s.pc + k.width).toNat % 4 = 0 := add_mod_four hpc k.width_mod_four
  have hww (k : Mode) : (s.pc + k.width + k.width).toNat % 4 = 0 := add_mod_four (hw k) k.width_mod_four
  unfold State.complete
  cases hd : s.delay with
  | some a => exact pcAligned_of_no_delay (hdelay a hd) rfl
  | none =>
    have hn : u.delay = none := hu.trans hd
    cases c with
    | seq => exact pcAligned_of_no_delay (hw _) hn
    | jump a => exact pcAligned_of_no_delay hc hn
    | delayed a sel =>
      refine ⟨hw _, fun b hb => ?_⟩
      cases hb
      exact hc
    | skip =>
      cases s.mode
      case single => exact pcAligned_of_no_delay (hww .single) hn
      case dual =>
        dsimp only
        split
        · exact pcAligned_of_no_delay (hww .dual) hn
        · exact pcAligned_of_no_delay (hw .dual) hn

theorem effect_ok_aligned {i : Instr} {s u : State} {c : Ctl} (h : s.pc.toNat % 4 = 0) (he : effect i s = .ok u c) :
    c.Aligned := by
  have hc := effect_ctlAligned i h
  rw [he] at hc
  exact hc

theorem exec_pcAligned {i : Instr} {s t : State} (h : PcAligned s) (he : exec i s = .next t) : PcAligned t := by
  rcases exec_next he with ⟨u, c, m, hu, rfl | rfl | rfl⟩ | ⟨u, c, _, _, rfl | rfl | rfl⟩
  · exact State.complete_pcAligned h (effect_delay hu) m (effect_ok_aligned h.1 hu)
  · have hd : (s.overlay u { s with free := u.free }).delay = s.delay := State.overlay_delay _ _ _
    exact State.complete_pcAligned h hd m (c := .seq) trivial
  · exact State.complete_pcAligned h ((State.overlay_delay _ _ _).trans (effect_delay hu)) m (effect_ok_aligned h.1 hu)
  all_goals exact State.enterTrap_pcAligned _ _ _ _

theorem runPair_pcAligned {fi ci : Instr} {s t : State} (h : PcAligned s) (hp : runPair fi ci s = .next t) :
    PcAligned t := by
  rcases retirePair_next (runPair_next hp) with
    ⟨sf, cf, sc, c, m, _, hc, _, _, rfl⟩ | ⟨sf, c, _, _, rfl⟩ | ⟨sf, cf, sc, c, _, _, ⟨_, rfl⟩ | ⟨_, rfl⟩⟩
  · have hpc : ({ s with free := sf.free } : State).pc.toNat % 4 = 0 := h.1
    have hd := effect_delay hc
    exact State.complete_pcAligned h ((State.overlay_delay s sf sc).trans hd) m (effect_ok_aligned hpc hc)
  all_goals exact State.enterTrap_pcAligned _ _ _ _

/-- Settles O4: an interrupt or a failed fetch goes to the trap vector, and an instruction or a pair goes where its
effect sends it. -/
theorem stepKeepsPcAligned : Obligations.StepKeepsPcAligned := by
  intro s t h hs
  rcases step_next hs with ⟨c, _, rfl⟩ | ⟨i, _, he⟩ | ⟨fi, ci, _, hp⟩
  · exact State.enterTrap_pcAligned s c _ _
  · exact exec_pcAligned h he
  · exact runPair_pcAligned h hp

end Sys2Proof.Machine
end

section
/-!
PROOFS. Memory in its canonical form: the stores write inside the address space, everything else leaves memory as it is
(O3).
-/
namespace Sys2Proof.Machine

/-! ## States with canonical memory -/

/-- The canonical form is about the memory of a state alone. -/
theorem MemoryCanonical.of_mem {s t : State} (h : MemoryCanonical s) (e : t.mem = s.mem) : MemoryCanonical t := by
  unfold MemoryCanonical
  rw [e]
  exact h

theorem MemoryCanonical.accessed {s : State} (h : MemoryCanonical s) : MemoryCanonical s.accessed :=
  h.of_mem (State.accessed_mem s)

theorem MemoryCanonical.increment {s : State} (h : MemoryCanonical s) (auto : Bool) (base : Reg) (ea : Word) :
    MemoryCanonical (s.increment auto base ea) := h.of_mem (State.increment_mem s auto base ea)

theorem MemoryCanonical.complete {u : State} (h : MemoryCanonical u) (s : State) (m : ModeSel) (c : Ctl) :
    MemoryCanonical (s.complete u m c) := h.of_mem (State.complete_mem s u m c)

theorem MemoryCanonical.enterTrap {s : State} (h : MemoryCanonical s) (c : Cause) (fir : Word) (knf : Bool) :
    MemoryCanonical (s.enterTrap c fir knf) := h.of_mem rfl

/-- In a pair only the core half stores. -/
theorem MemoryCanonical.overlay {sc : State} (h : MemoryCanonical sc) (s sf : State) :
    MemoryCanonical (s.overlay sf sc) := h.of_mem rfl

/-! ## Stores -/

/-- The continuation of a data access may use that the access is allowed. -/
theorem Eff.all_checkData_of_dataOk {P : State → Prop} {s : State} {ea : Word} {n : Nat} {k : Eff} (h : P s)
    (hk : s.dataOk ea n = true → k.All P) : (checkData s ea n k).All P := by
  unfold checkData
  split
  · exact hk ‹_›
  · exact h

/-- An allowed access of a width that divides the address space lies inside it (R72). -/
theorem State.dataOk_inside {s : State} {ea : Word} {n : Nat} (h : s.dataOk ea n = true) (hn : n ∣ 2 ^ 32) :
    ea.toNat + n ≤ 2 ^ 32 := aligned_inside ea n ((s.dataOk_iff ea n).1 h).1 hn

/-- A pixel of an eight-byte access inside the address space lies inside it too, without wrapping around (R167). -/
theorem pixel_inside {ea : Word} {b i : Nat} (h : ea.toNat + 8 ≤ 2 ^ 32) (hi : i < 8 / b) :
    (ea + BitVec.ofNat 32 (i * b)).toNat + b ≤ 2 ^ 32 := by
  have hfit : i * b + b ≤ 8 := by
    calc i * b + b = (i + 1) * b := (Nat.succ_mul i b).symm
      _ ≤ 8 / b * b := Nat.mul_le_mul_right b hi
      _ ≤ 8 := Nat.div_mul_le_self 8 b
  rw [BitVec.toNat_add, BitVec.toNat_ofNat]
  omega

theorem lt_of_mem_enabledPixels {pm : Byte} {b i : Nat} (h : i ∈ enabledPixels pm b) : i < 8 / b :=
  List.mem_range.1 (List.mem_filter.1 h).1

section
variable {s : State} (h : MemoryCanonical s)
include h

theorem MemoryCanonical.storePixels {ea : Word} {b : Nat} (v : BitVec 128) {l : List Nat}
    (hl : ∀ i ∈ l, (ea + BitVec.ofNat 32 (i * b)).toNat + b ≤ 2 ^ 32) :
    MemoryCanonical (storePixels s ea b v l) := by
  induction l generalizing s with
  | nil => exact h
  | cons i l ih =>
    obtain ⟨hi, hl⟩ := List.forall_mem_cons.1 hl
    exact ih (State.storeBits_wf s _ b _ h hi) hl

theorem MemoryCanonical.storeData {n : Nat} (hn : n ∣ 2 ^ 32) {v : BitVec 128} {auto : Bool} {base : Reg} {ea : Word} :
    (storeData n v auto base ea s).All MemoryCanonical := by
  refine Eff.all_checkData_of_dataOk h fun ho => Eff.all_demand ?_
  have hs : MemoryCanonical (s.accessed.storeBits ea n v) :=
    State.storeBits_wf s.accessed ea n v h.accessed (State.dataOk_inside ho hn)
  exact hs.increment auto base ea

theorem MemoryCanonical.pixelStore {auto : Bool} {base dest : Reg} {ea : Word} :
    (pixelStore auto base dest ea s).All MemoryCanonical := by
  refine Eff.all_checkData_of_dataOk h fun ho => ?_
  have hea : ea.toNat + 8 ≤ 2 ^ 32 := State.dataOk_inside ho (by decide)
  split
  · trivial
  · rename_i b _
    have hs : MemoryCanonical
        (Machine.storePixels s.accessed ea b ((s.FD dest).setWidth 128) (enabledPixels s.psr.pm b)) :=
      h.accessed.storePixels _ fun _ hi => pixel_inside hea (lt_of_mem_enabledPixels hi)
    refine Eff.all_demand (.increment (hs.of_mem ?_) auto base ea)
    rfl

theorem MemoryCanonical.report {k : Eff} (hk : k.All MemoryCanonical) : (reportResult s k).All MemoryCanonical :=
  Eff.all_reportResult (h.of_mem rfl) hk

/-! ## Every instruction -/

/-- An instruction that is not a store leaves memory as it is. -/
theorem effect_memoryCanonical_of_not_stores {i : Instr} (hi : storesMemory i = false) :
    (effect i s).All MemoryCanonical := by
  have hc := effect_confined i s
  cases he : effect i s with
  | ok u c => exact h.of_mem ((hc.of_ok he).mem hi)
  | trap c u => exact h.of_mem ((hc.of_trap he).mem hi)
  | refuse r => trivial

/-- Every effect, whether the instruction completes or traps, leaves memory in its canonical form. -/
theorem effect_memoryCanonical (i : Instr) : (effect i s).All MemoryCanonical := by
  cases hi : storesMemory i
  case false => exact effect_memoryCanonical_of_not_stores h hi
  cases i
  case stb | sts | stl => exact h.storeData (by decide)
  case fstlI => exact h.report (h.storeData (by decide))
  case fstlR | fstdI | fstqI => exact Eff.all_demand (h.report (h.storeData (by decide)))
  case fstdR | fstqR => exact Eff.all_demand (Eff.all_demand (h.report (h.storeData (by decide))))
  case pstd => exact Eff.all_demand (h.report h.pixelStore)
  all_goals exact absurd hi Bool.false_ne_true

/-! ## The step -/

theorem exec_memoryCanonical {i : Instr} {t : State} (he : exec i s = .next t) : MemoryCanonical t := by
  have hi := effect_memoryCanonical h i
  rcases exec_next he with ⟨u, c, m, hu, rfl | rfl | rfl⟩ | ⟨u, c, hu, _, rfl | rfl | rfl⟩
  · exact (hi.of_ok hu).complete s m c
  · have hs : MemoryCanonical { s with free := u.free } := h.of_mem rfl
    exact (hs.overlay s u).complete s m .seq
  · exact ((hi.of_ok hu).overlay s s).complete s m c
  · exact (hi.of_trap hu).enterTrap _ _ _
  · exact (((hi.of_trap hu).of_mem (State.tick_mem u)).overlay s s).enterTrap _ _ _
  · exact ((hi.of_trap hu).of_mem (State.tick_mem u)).enterTrap _ _ _

/-- The core half of a pair reads the state before the pair, but for the free values drawn (R384). -/
theorem runPair_memoryCanonical {fi ci : Instr} {t : State} (hp : runPair fi ci s = .next t) : MemoryCanonical t := by
  have hcore (n : Nat) : (effect ci { s with free := n }).All MemoryCanonical :=
    effect_memoryCanonical (s := { s with free := n }) (h.of_mem rfl) ci
  rcases retirePair_next (runPair_next hp) with
    ⟨sf, cf, sc, c, m, _, hc, _, _, rfl⟩ | ⟨sf, c, hf, _, rfl⟩ | ⟨sf, cf, sc, c, _, hc, ⟨_, rfl⟩ | ⟨_, rfl⟩⟩
  · exact (((hcore _).of_ok hc).overlay s sf).complete s m c
  · exact ((effect_memoryCanonical h fi).of_trap hf).enterTrap _ _ _
  · exact ((((hcore _).of_trap hc).of_mem (State.tick_mem sc)).overlay s sf).enterTrap _ _ _
  · exact (((hcore _).of_trap hc).of_mem (State.tick_mem sc)).enterTrap _ _ _

end

/-- Settles O3: an interrupt or a failed fetch leaves memory as it is, and the stores of an instruction or a pair lie
inside the address space. -/
theorem stepKeepsMemoryCanonical : Obligations.StepKeepsMemoryCanonical := by
  intro s t h hs
  rcases step_next hs with ⟨c, _, rfl⟩ | ⟨i, _, he⟩ | ⟨fi, ci, _, hp⟩
  · exact h.enterTrap c _ _
  · exact exec_memoryCanonical h he
  · exact runPair_memoryCanonical h hp

end Sys2Proof.Machine
end

section
/-!
PROOFS. The decoder and the encoder: decoding inverts encoding (O10), every answer of the decoder is a well-formed
machine instruction (O11), the encodings that R130 reserves are rejected by name (O12), and words of the spec (O13).
-/
namespace Sys2Proof

/-! ## Fields as numbers, and the parts of a floating-point opcode -/

section
variable (w : Word)

theorem opcField_toNat : (opcField w).toNat = w.toNat / 2 ^ 26 := by
  rw [opcField, BitVec.extractLsb'_toNat, Nat.shiftRight_eq_div_pow]
  omega

theorem src2Field_toNat : (src2Field w).toNat = w.toNat / 2 ^ 21 % 32 := by
  rw [src2Field, BitVec.extractLsb'_toNat, Nat.shiftRight_eq_div_pow]

theorem escField_toNat : (escField w).toNat = w.toNat % 2 ^ 5 := by
  rw [escField, BitVec.extractLsb'_toNat, Nat.shiftRight_zero]

theorem fopField_toNat : (fopField w).toNat = w.toNat % 2 ^ 7 := by
  rw [fopField, BitVec.extractLsb'_toNat, Nat.shiftRight_zero]

/-- The row bits of a dual operation are the high part of the floating-point opcode (R321). -/
theorem dualField_eq : dualField w = (fopField w).extractLsb' 4 3 :=
  (BitVec.extractLsb'_extractLsb'_of_le (by decide)).symm

/-- Data-path control is the low part of the floating-point opcode (R321). -/
theorem dpcField_eq : dpcField w = (fopField w).extractLsb' 0 4 :=
  (BitVec.extractLsb'_extractLsb'_of_le (by decide)).symm

end

section
variable {w : Word} {n : Nat}

theorem opcField_eq (h : w.toNat / 2 ^ 26 = n) : opcField w = BitVec.ofNat 6 n := by
  rw [← h, ← opcField_toNat, BitVec.ofNat_toNat, BitVec.setWidth_eq]

theorem fopField_eq (h : w.toNat % 2 ^ 7 = n) : fopField w = BitVec.ofNat 7 n := by
  rw [← h, ← fopField_toNat, BitVec.ofNat_toNat, BitVec.setWidth_eq]

end

/-! ## The rows of the floating-point and the core-escape format -/

section
variable {w : Word}

theorem decode_of_fp (h : opcField w = 0x12#6) : decode w = decodeFp w := by
  unfold decode
  rw [h]
  rfl

theorem decode_of_escape (h : opcField w = 0x13#6) : decode w = decodeEscape w := by
  unfold decode
  rw [h]
  rfl

end

/-! ## Decoding inverts encoding -/

theorem creg?_number (c : CReg) : creg? c.number = .ok c := by cases c <;> rfl

/-- The row bits of a dual operation (R321). -/
theorem dual_row (a : BitVec 3) (dpc : BitVec 4) : (a ++ dpc).extractLsb' 4 3 = a := by
  rw [extract_high _ _ _ _ (by omega)]
  exact extract_all a

/-- One case for each format and use of its fields: the decoder reads the fields that the encoder wrote, and they pick
the row of the instruction. -/
theorem decode_encode (i : Instr) (h : i.WellFormed = true) : decode (encode i) = .ok i.expand := by
  cases i
  -- the REG format (R102), with the sizes of integer and floating-point accesses (R107, R113)
  case ldbR | ldsR | ldlR | ixfr | bri | trap | adduR | subuR | addsR | subsR | shlR | shrR | shraR | andR | andnotR
      | orR | xorR | mov | nop =>
    change decode (regWord ..) = _
    unfold decode
    rw [regWord_opc, regWord_src1, regWord_src2, regWord_dest, regWord_bit0]
    rfl
  case fldlR | flddR | fldqR | fstlR | fstdR | fstqR | pfldlR | pflddR =>
    change decode (regWord ..) = _
    unfold decode
    rw [regWord_opc, regWord_src1, regWord_src2, regWord_dest, regWord_bit0, regWord_bit1, regWord_bit2, sizeLow_bit0,
      sizeLow_bit1, sizeLow_bit2]
    rfl
  case shrd | fnop =>
    change decode (regWord ..) = _
    unfold decode
    rw [regWord_opc, regWord_src1, regWord_src2, regWord_dest, regWord_dBit, low_dBit]
    rfl
  case ldc | stc =>
    change decode (regWord ..) = _
    unfold decode
    rw [regWord_opc, regWord_src1, regWord_src2, regWord_dest]
    exact congrArg (Except.map _) (creg?_number _)
  case lock | calli | intovr | unlock =>
    change decode (regWord ..) = _
    rw [decode_of_escape (regWord_opc ..)]
    unfold decodeEscape
    rw [regWord_esc, regWord_src1]
    rfl
  -- the immediate variant (R103), with the offsets above their size bits (R112, R114)
  case ldbI | adduI | subuI | addsI | subsI | shlI | shrI | shraI | andI | andh | andnotI | andnoth | orI | orh | xorI
      | xorh =>
    change decode (immWord ..) = _
    unfold decode
    rw [immWord_opc, immWord_src2, immWord_dest, immWord_imm]
    rfl
  case ldsI | ldlI =>
    change decode (immWord ..) = _
    unfold decode
    rw [immWord_opc, immWord_src2, immWord_dest, immWord_imm, immWord_bit0, offX_bit0]
    refine congrArg Except.ok ?_
    rw [offX_off15]
    rfl
  case fldlI | fstlI | pfldlI =>
    change decode (immWord ..) = _
    unfold decode
    rw [immWord_opc, immWord_src2, immWord_dest, immWord_imm, immWord_bit0, immWord_bit1, offL_bit0, offL_bit1]
    refine congrArg Except.ok ?_
    rw [offL_off14]
    rfl
  case flddI | fldqI | fstdI | fstqI | pflddI | flush | pstd =>
    change decode (immWord ..) = _
    unfold decode
    rw [immWord_opc, immWord_src2, immWord_dest, immWord_imm, immWord_bit0, immWord_bit1, immWord_bit2, offW_bit0,
      offW_bit1, offW_bit2]
    refine congrArg Except.ok ?_
    rw [offW_off13]
    rfl
  -- the split offset (R104) and the CTRL format (R115)
  case stb | btneR | btneI | bteR | bteI | bla =>
    change decode (splitWord ..) = _
    unfold decode
    rw [splitWord_opc, splitWord_src1, splitWord_src2, splitWord_off]
    rfl
  case sts | stl =>
    change decode (splitWord ..) = _
    unfold decode
    rw [splitWord_opc, splitWord_src1, splitWord_src2, splitWord_off, splitWord_bit0, offX_bit0]
    refine congrArg Except.ok ?_
    rw [offX_off15]
    rfl
  case br | call | bc | bcT | bnc | bncT =>
    change decode (ctrlWord ..) = _
    unfold decode
    rw [ctrlWord_opc, ctrlWord_off]
    rfl
  -- the floating-point format (R120), whose opcode in a dual operation holds data-path control (R321)
  all_goals
    change decode (fpWord ..) = _
    rw [decode_of_fp (fpWord_opc ..)]
    unfold decodeFp
    rw [fpWord_src1, fpWord_src2, fpWord_dest, fpWord_p, fpWord_d, fpWord_s, fpWord_r, fpWord_fop, fpWord_dual,
      fpWord_dpc]
  case pfamSs | pfamSd | pfamDd | pfsmSs | pfsmSd | pfsmDd =>
    rw [dual_row, fop_dpc]
    rfl
  case pfmamSs | pfmamSd | pfmamDd | pfmsmSs | pfmsmSd | pfmsmDd =>
    rw [dual_row, fop_dpc]
    exact if_pos h
  all_goals rfl

/-- Settles O10, by `decode_encode`. -/
theorem decodeInvertsEncode : Obligations.DecodeInvertsEncode := decode_encode

/-! ## Words of the spec -/

/-- Settles O13: each word is the encoding of its instruction, which decoding inverts. -/
theorem decodesWordsOfTheSpec : Obligations.DecodesWordsOfTheSpec :=
  ⟨decode_encode (.addsI 0xFFFF 16 16) rfl, decode_encode (.addsR 5 6 7) rfl, decode_encode (.andI 3 16 4) rfl,
    decode_encode (.shlI 2 20 23) rfl, decode_encode (.ldbI 0 5 6) rfl, decode_encode (.btneR 0 16 0xFFFD) rfl,
    decode_encode (.bc 3) rfl, decode_encode (.calli 8) rfl, decode_encode (.ldc .psr 4) rfl,
    decode_encode (.trap 0 0 0) rfl, decode_encode (.fiaddDd true 0 0 0) rfl, decode_encode (.shrd true 0 0 0) rfl⟩

/-! ## What the decoder answers -/

/-- A well-formed machine instruction: its operands are assigned and it is no pseudo-operation. -/
def Instr.IsMachine (i : Instr) : Prop := i.WellFormed = true ∧ i.expand = i

/-- The answer, where it is an instruction, is a well-formed machine instruction. -/
def AnswersMachine (e : Except Reserved Instr) : Prop := ∀ i, e = .ok i → i.IsMachine

theorem Instr.IsMachine.ite {b : Bool} {i j : Instr} (hi : i.IsMachine := by exact ⟨rfl, rfl⟩)
    (hj : j.IsMachine := by exact ⟨rfl, rfl⟩) : (if b then i else j).IsMachine := by
  cases b
  · exact hj
  · exact hi

namespace AnswersMachine

theorem ok {i : Instr} (h : i.IsMachine := by exact ⟨rfl, rfl⟩) : AnswersMachine (.ok i) := by
  rintro _ ⟨⟩
  exact h

theorem error {r : Reserved} : AnswersMachine (.error r) := nofun

theorem map {α : Type} {f : α → Instr} {e : Except Reserved α} (h : ∀ a, (f a).IsMachine) :
    AnswersMachine (e.map f) := by
  cases e
  · exact error
  · exact ok (h _)

section
variable {s r : Bool} {ss sd ds dd : Instr}
  (hss : ss.IsMachine := by exact ⟨rfl, rfl⟩) (hsd : sd.IsMachine := by exact ⟨rfl, rfl⟩)
  (hds : ds.IsMachine := by exact ⟨rfl, rfl⟩) (hdd : dd.IsMachine := by exact ⟨rfl, rfl⟩)

include hss hsd hdd in
theorem precP : AnswersMachine (precP s r ss sd dd) := by
  unfold Sys2Proof.precP
  split
  · exact ok hss
  · exact ok hsd
  · exact ok hdd
  · exact error

include hss hsd hds hdd in
theorem precR : AnswersMachine (precR s r ss sd ds dd) := by
  unfold Sys2Proof.precR
  split
  · exact ok hss
  · exact ok hsd
  · exact ok hds
  · exact ok hdd

include hss hdd in
theorem precW : AnswersMachine (precW s r ss dd) := by
  unfold Sys2Proof.precW
  split
  · exact ok hss
  · exact ok hdd
  · exact error

include hdd in
theorem precD : AnswersMachine (precD s r dd) := by
  unfold Sys2Proof.precD
  split
  · exact ok hdd
  · exact error

end

section
variable {bit1 bit2 : Bool} {l d q : Instr} (hl : l.IsMachine := by exact ⟨rfl, rfl⟩)
  (hd : d.IsMachine := by exact ⟨rfl, rfl⟩) (hq : q.IsMachine := by exact ⟨rfl, rfl⟩)

include hl hd hq in
theorem bySize : AnswersMachine (bySize bit1 bit2 l d q) := by
  cases bit1 <;> cases bit2
  · exact ok hd
  · exact ok hq
  · exact ok hl
  · exact ok hl

include hl hd in
theorem bySizeZ : AnswersMachine (bySizeZ bit1 bit2 l d) := by
  cases bit1 <;> cases bit2
  · exact ok hd
  · exact error
  · exact ok hl
  · exact ok hl

include hd in
theorem bySizeD : AnswersMachine (bySizeD bit1 bit2 d) := by
  cases bit1 <;> cases bit2
  · exact ok hd
  all_goals exact error

end

section
variable {p : Bool} {a b : Except Reserved Instr}

theorem byP (ha : AnswersMachine a) (hb : AnswersMachine b) : AnswersMachine (byP p a b) := by
  cases p
  · exact ha
  · exact hb

theorem onlyScalar (ha : AnswersMachine a) : AnswersMachine (onlyScalar p a) := by
  cases p
  · exact ha
  · exact error

theorem onlyPipelined (ha : AnswersMachine a) : AnswersMachine (onlyPipelined p a) := by
  cases p
  · exact error
  · exact ha

theorem byDpc {dpc : BitVec 4} (h : dpcAssigned dpc = true → AnswersMachine a) : AnswersMachine (byDpc dpc a) := by
  unfold Sys2Proof.byDpc
  split
  · exact h ‹_›
  · exact error

end

end AnswersMachine

/-! ### The rows of the decoder -/

theorem decodeEscape_answersMachine (w : Word) : AnswersMachine (decodeEscape w) := by
  unfold decodeEscape
  split
  case h_5 => exact .error
  all_goals exact .ok

theorem decodeFp_answersMachine (w : Word) : AnswersMachine (decodeFp w) := by
  unfold decodeFp
  split
  case h_1 | h_2 => exact .byP (.byDpc fun h => .precP ⟨h, rfl⟩ ⟨h, rfl⟩ ⟨h, rfl⟩) .precP
  split
  case h_1 | h_6 | h_7 | h_8 | h_12 => exact .byP .precP .precP
  case h_2 => exact .onlyScalar .precD
  case h_3 | h_4 => exact .onlyScalar .precP
  case h_5 => exact .onlyPipelined .precD
  case h_9 => exact .byP .precR .precR
  case h_10 => exact .onlyPipelined .precR
  case h_11 => exact .onlyPipelined (.ok .ite)
  case h_13 => exact .onlyScalar .ok
  case h_14 | h_15 => exact .byP .precW .precW
  case h_16 | h_17 | h_18 | h_19 | h_20 => exact .byP .ok .ok
  case h_21 => exact .error

theorem decode_answersMachine (w : Word) : AnswersMachine (decode w) := by
  unfold decode
  split
  case h_5 | h_6 | h_7 => exact .ok .ite
  case h_8 | h_9 | h_10 | h_11 => exact .bySize
  case h_12 | h_14 => exact .map fun _ => ⟨rfl, rfl⟩
  case h_13 | h_15 => exact .bySizeD
  case h_18 => exact decodeFp_answersMachine w
  case h_19 => exact decodeEscape_answersMachine w
  case h_24 | h_25 => exact .bySizeZ
  case h_60 => exact .error
  all_goals exact .ok

/-- Settles O11: every row of the decoder names well-formed machine instructions. -/
theorem decodedInstructionIsWellFormed : Obligations.DecodedInstructionIsWellFormed := decode_answersMachine

/-! ## Reserved encodings (R130) -/

section
variable {w : Word}

theorem decode_reserved_primary (h : w.toNat / 2 ^ 26 ∈ [0x06, 0x32, 0x36, 0x3A, 0x3E]) :
    decode w = .error .primaryOpcode := by
  simp only [List.mem_cons, List.not_mem_nil, or_false] at h
  unfold decode
  rcases h with h | h | h | h | h
  all_goals
    rw [opcField_eq h]
    rfl

theorem decodeEscape_reserved (h : w.toNat % 2 ^ 5 ∉ [1, 2, 4, 7]) : decodeEscape w = .error .coreEscape := by
  rw [← escField_toNat] at h
  unfold decodeEscape
  split
  case h_5 => rfl
  all_goals simp_all

theorem creg?_reserved {n : BitVec 5} (h : 5 < n.toNat) : creg? n = .error .controlRegister := by
  unfold creg?
  split
  case h_7 => rfl
  all_goals exact absurd h (by decide)

theorem decode_reserved_creg (hp : w.toNat / 2 ^ 26 ∈ [0x0C, 0x0E]) (h : 5 < w.toNat / 2 ^ 21 % 32) :
    decode w = .error .controlRegister := by
  simp only [List.mem_cons, List.not_mem_nil, or_false] at hp
  rw [← src2Field_toNat] at h
  unfold decode
  rcases hp with hp | hp
  all_goals
    rw [opcField_eq hp]
    exact congrArg (Except.map _) (creg?_reserved h)

/-- A pipelined load has no 128-bit form (R113). -/
theorem decode_reserved_size_pfld (hp : w.toNat / 2 ^ 26 ∈ [0x18, 0x19]) (h1 : w.getLsbD 1 = false)
    (h2 : w.getLsbD 2 = true) : decode w = .error .sizeBits := by
  simp only [List.mem_cons, List.not_mem_nil, or_false] at hp
  unfold decode
  rcases hp with hp | hp
  all_goals
    rw [opcField_eq hp, h1, h2]
    rfl

/-- flush and pst.d have one size (R113). -/
theorem decode_reserved_size_flush_pstd (hp : w.toNat / 2 ^ 26 ∈ [0x0D, 0x0F])
    (h : w.getLsbD 1 = true ∨ w.getLsbD 2 = true) : decode w = .error .sizeBits := by
  simp only [List.mem_cons, List.not_mem_nil, or_false] at hp
  have hb : (w.getLsbD 1 || w.getLsbD 2) = true := Bool.or_eq_true_iff.2 h
  unfold decode
  rcases hp with hp | hp
  all_goals
    rw [opcField_eq hp]
    exact if_pos hb

/-! ### The floating-point format (R121, R124) -/

theorem decodeFp_reserved_opcode (hlow : 0x20 ≤ w.toNat % 2 ^ 7)
    (h : w.toNat % 2 ^ 7 ∉ [0x20, 0x21, 0x22, 0x23, 0x24, 0x30, 0x31, 0x32, 0x33, 0x34, 0x35, 0x3A, 0x40, 0x49, 0x4D,
      0x50, 0x51, 0x57, 0x5A, 0x5F]) : decodeFp w = .error .fpOpcode := by
  rw [← fopField_toNat] at hlow h
  have hdual (a : BitVec 3) (ha : a.toNat < 2) : dualField w ≠ a := by
    intro he
    have := congrArg BitVec.toNat he
    rw [dualField_eq, BitVec.extractLsb'_toNat, Nat.shiftRight_eq_div_pow] at this
    omega
  unfold decodeFp
  split
  case h_1 he => exact absurd he (hdual _ (by decide))
  case h_2 he => exact absurd he (hdual _ (by decide))
  case h_3 =>
    split
    case h_21 => rfl
    all_goals simp_all

theorem decodeFp_reserved_pipelined (h : w.toNat % 2 ^ 7 ∈ [0x21, 0x22, 0x23, 0x40]) (hp : pBit w = true) :
    decodeFp w = .error .fpOpcode := by
  simp only [List.mem_cons, List.not_mem_nil, or_false] at h
  unfold decodeFp
  rcases h with h | h | h | h
  all_goals
    rw [dualField_eq, fopField_eq h, hp]
    rfl

theorem decodeFp_reserved_scalar (h : w.toNat % 2 ^ 7 ∈ [0x24, 0x34, 0x35]) (hp : pBit w = false) :
    decodeFp w = .error .fpOpcode := by
  simp only [List.mem_cons, List.not_mem_nil, or_false] at h
  unfold decodeFp
  rcases h with h | h | h
  all_goals
    rw [dualField_eq, fopField_eq h, hp]
    rfl

/-- Suffix `.p` leaves S = 1, R = 0 out, in scalar and pipelined forms alike. -/
theorem decodeFp_reserved_precP (h : w.toNat % 2 ^ 7 ∈ [0x20, 0x30, 0x31, 0x32, 0x3A]) (hs : sBit w = true)
    (hr : rBit w = false) : decodeFp w = .error .fpPrecision := by
  simp only [List.mem_cons, List.not_mem_nil, or_false] at h
  unfold decodeFp
  rcases h with h | h | h | h | h
  all_goals
    rw [dualField_eq, fopField_eq h, hs, hr]
    cases pBit w <;> rfl

/-- The seeds have suffix `.p` too, but only a scalar form. -/
theorem decodeFp_reserved_precP_seed (h : w.toNat % 2 ^ 7 ∈ [0x22, 0x23]) (hp : pBit w = false) (hs : sBit w = true)
    (hr : rBit w = false) : decodeFp w = .error .fpPrecision := by
  simp only [List.mem_cons, List.not_mem_nil, or_false] at h
  unfold decodeFp
  rcases h with h | h
  all_goals
    rw [dualField_eq, fopField_eq h, hp, hs, hr]
    rfl

/-- A dual operation whose suffix is reserved is rejected for it, unless data-path control is reserved too. -/
theorem byP_byDpc_error {p : Bool} {c : BitVec 4} (h : p = true ∨ dpcAssigned c = true) (r : Reserved) :
    byP p (byDpc c (.error r)) (.error r) = .error r := by
  cases p
  case false => exact if_pos (h.resolve_left Bool.false_ne_true)
  case true => rfl

/-- Dual operations have suffix `.p` too; data-path control 1111 of pfmam and pfmsm is reserved for another
reason. -/
theorem decodeFp_reserved_precP_dual (h : w.toNat % 2 ^ 7 < 0x20) (hs : sBit w = true) (hr : rBit w = false)
    (hc : pBit w = true ∨ w.toNat % 2 ^ 7 % 16 ≠ 15) : decodeFp w = .error .fpPrecision := by
  rw [← fopField_toNat] at h hc
  have hrow : dualField w = 0#3 ∨ dualField w = 1#3 := by
    rw [dualField_eq, ← BitVec.toNat_inj, ← BitVec.toNat_inj, BitVec.extractLsb'_toNat, Nat.shiftRight_eq_div_pow]
    simp only [BitVec.toNat_ofNat]
    omega
  have hdpc : pBit w = true ∨ dpcAssigned (dpcField w) = true := by
    refine hc.imp_right fun hc => bne_iff_ne.2 fun he => hc ?_
    rw [dpcField_eq, ← BitVec.toNat_inj, BitVec.extractLsb'_toNat] at he
    exact he
  unfold decodeFp
  rcases hrow with hrow | hrow
  all_goals
    rw [hrow, hs, hr]
    exact byP_byDpc_error hdpc _

/-- Suffix `.w` asks for S = R. -/
theorem decodeFp_reserved_precW (h : w.toNat % 2 ^ 7 ∈ [0x49, 0x4D]) (hsr : sBit w ≠ rBit w) :
    decodeFp w = .error .fpPrecision := by
  simp only [List.mem_cons, List.not_mem_nil, or_false] at h
  unfold decodeFp
  rcases h with h | h
  all_goals
    rw [dualField_eq, fopField_eq h, Bool.eq_not.2 hsr]
    cases pBit w <;> cases rBit w <;> rfl

theorem precD_reserved {s r : Bool} (h : (s, r) ≠ (true, true)) (dd : Instr) :
    precD s r dd = .error .fpPrecision := by
  cases s <;> cases r
  case true.true => exact absurd rfl h
  all_goals rfl

/-- fmlow.dd and pfmul3.dd have no other precision. -/
theorem decodeFp_reserved_precD (hsr : (sBit w, rBit w) ≠ (true, true))
    (h : w.toNat % 2 ^ 7 = 0x21 ∧ pBit w = false ∨ w.toNat % 2 ^ 7 = 0x24 ∧ pBit w = true) :
    decodeFp w = .error .fpPrecision := by
  unfold decodeFp
  rcases h with ⟨h, hp⟩ | ⟨h, hp⟩
  all_goals
    rw [dualField_eq, fopField_eq h, hp]
    exact precD_reserved hsr _

end

/-- Settles O12: the lemmas of this section, clause by clause. -/
theorem reservedWordsAreRejected : Obligations.ReservedWordsAreRejected := by
  intro w
  refine ⟨decode_reserved_primary, fun hp h => ?escape, decode_reserved_creg, decode_reserved_size_pfld,
    decode_reserved_size_flush_pstd, fun hp => ?fp⟩
  case escape => rw [decode_of_escape (opcField_eq hp), decodeEscape_reserved h]
  case fp =>
    rw [decode_of_fp (opcField_eq hp)]
    refine ⟨decodeFp_reserved_opcode, decodeFp_reserved_pipelined, decodeFp_reserved_scalar, fun hsr h => ?precP,
      fun hsr h => decodeFp_reserved_precW h hsr, decodeFp_reserved_precD⟩
    obtain ⟨hs, hr⟩ := Prod.mk.inj hsr
    rcases h with h | ⟨h, hp⟩ | ⟨h, hc⟩
    · exact decodeFp_reserved_precP h hs hr
    · exact decodeFp_reserved_precP_seed h hp hs hr
    · exact decodeFp_reserved_precP_dual h hs hr hc

end Sys2Proof
end

section
/-!
PROOFS. Loads, stores, pfld, pst.d, flush and the transfers between the register files: the bytes each reads and writes
(O29 to O36), and the data access trap of a bad address (O20).
-/
namespace Sys2Proof.Machine

/-! ## Bytes and words of a value (R70) -/

/-- A byte of a shifted value is a byte further up. -/
theorem extractLsb'_ushiftRight {w : Nat} (v : BitVec w) (n k len : Nat) :
    (v >>> n).extractLsb' k len = v.extractLsb' (n + k) len := by
  apply BitVec.eq_of_getLsbD_eq
  intro i hi
  simp [hi, Nat.add_assoc]

/-- A part of a part of a value. -/
theorem extractLsb'_extractLsb' {w n m k len : Nat} (v : BitVec w) (h : k + len ≤ m) :
    (v.extractLsb' n m).extractLsb' k len = v.extractLsb' (n + k) len := by
  apply BitVec.eq_of_getLsbD_eq
  intro i hi
  have hk : k + i < m := by omega
  simp [hi, hk, Nat.add_assoc]

theorem ushiftRight_eq_ofNat_div {w : Nat} (v : BitVec w) (n : Nat) : v >>> n = BitVec.ofNat w (v.toNat / 2 ^ n) := by
  apply BitVec.eq_of_toNat_eq
  rw [BitVec.toNat_ushiftRight, Nat.shiftRight_eq_div_pow, BitVec.toNat_ofNat,
    Nat.mod_eq_of_lt (Nat.lt_of_le_of_lt (Nat.div_le_self _ _) v.isLt)]

/-- Byte `k` of a load. -/
theorem State.loadBits_byte (s : State) (ea : Word) {n k : Nat} (hk : k < n) (hn : n ≤ 16) :
    (s.loadBits ea n).extractLsb' (8 * k) 8 = s.byteAt (ea.toNat + k) k := by
  apply BitVec.eq_of_getLsbD_eq
  intro i hi
  have hdiv : (8 * k + i) / 8 = k := by omega
  have hmod : (8 * k + i) % 8 = i := by omega
  rw [BitVec.getLsbD_extractLsb', State.loadBits_getLsbD _ _ _ _ (by omega), hdiv, hmod, if_pos hk]
  simp [hi]

section
variable (s : State) (ea : Word)

theorem extByte_loadBits : extByte (s.loadBits ea 1) = BitVec.ofInt 32 (s.byteAt (ea.toNat + 0) 0).toInt := by
  unfold extByte BitVec.signExtend
  rw [BitVec.setWidth_eq_extractLsb' (by omega), s.loadBits_byte ea (k := 0) (by omega) (by omega)]

theorem extHalf_loadBits : extHalf (s.loadBits ea 2) =
    BitVec.ofInt 32 (s.byteAt (ea.toNat + 1) 1 ++ s.byteAt (ea.toNat + 0) 0).toInt := by
  unfold extHalf BitVec.signExtend
  rw [BitVec.setWidth_eq_extractLsb' (by omega), ← s.loadBits_byte ea (n := 2) (k := 1) (by omega) (by omega),
    ← s.loadBits_byte ea (n := 2) (k := 0) (by omega) (by omega),
    BitVec.extractLsb'_append_extractLsb'_eq_extractLsb' (start₁ := 8 * 0) (len₁ := 8) rfl]

theorem loadBits_setWidth_word {n : Nat} (h : 4 ≤ n) (hn : n ≤ 16) :
    (s.loadBits ea n).setWidth 32 = s.loadWord ea 0 := by
  rw [BitVec.setWidth_eq_extractLsb' (by omega)]
  exact s.loadBits_word ea n 0 h hn

/-- The two words of a double, the lowest address in the low half. -/
theorem loadBits_setWidth_double {n : Nat} (h : 8 ≤ n) (hn : n ≤ 16) :
    (s.loadBits ea n).setWidth 64 = s.loadWord ea 4 ++ s.loadWord ea 0 := by
  have hlo := s.loadBits_word ea n 0 (by omega) hn
  have hhi := s.loadBits_word ea n 1 (by omega) hn
  rw [BitVec.setWidth_eq_extractLsb' (by omega), ← hlo, ← hhi,
    BitVec.extractLsb'_append_extractLsb'_eq_extractLsb' (start₁ := 32 * 0) (len₁ := 32) rfl]

/-- A load of four bytes fills the low half of a pipeline entry with them. -/
theorem loadBits_four_setWidth : (s.loadBits ea 4).setWidth 64 = (s.loadWord ea 0).setWidth 64 := by
  rw [← loadBits_setWidth_word s ea (n := 4) (by omega) (by omega)]
  apply BitVec.eq_of_getLsbD_eq
  intro i hi
  rw [BitVec.getLsbD_setWidth, BitVec.getLsbD_setWidth, BitVec.getLsbD_setWidth]
  by_cases h : i < 32
  · simp [h]
  · rw [State.loadBits_getLsbD _ _ _ _ (by omega), if_neg (by omega)]
    simp [h]

/-- `fld.d` as two writes of one register. -/
theorem setFD_loadBits (t : State) (dest : Reg) {n : Nat} (h : 8 ≤ n) (hn : n ≤ 16) :
    t.setFD dest ((s.loadBits ea n).setWidth 64) =
      (t.setFS dest (s.loadWord ea 0)).setFS (dest + 1) (s.loadWord ea 4) := by
  have hlo := s.loadBits_word ea n 0 (by omega) hn
  have hhi := s.loadBits_word ea n 1 (by omega) hn
  rw [State.setFD, BitVec.extractLsb'_setWidth_of_le (by omega), BitVec.extractLsb'_setWidth_of_le (by omega)]
  exact congr (congrArg (fun a b => (t.setFS dest a).setFS (dest + 1) b) hlo) hhi

/-- `fld.q` as four writes of one register. -/
theorem setFQ_loadBits (t : State) (dest : Reg) :
    t.setFQ dest (s.loadBits ea 16) =
      (((t.setFS dest (s.loadWord ea 0)).setFS (dest + 1) (s.loadWord ea 4)).setFS (dest + 2) (s.loadWord ea 8)).setFS
        (dest + 3) (s.loadWord ea 12) := by
  have hreg : dest + 2 + 1 = dest + 3 := by rw [BitVec.add_assoc]; rfl
  have h8 := s.loadBits_word ea 16 2 (by omega) (by omega)
  have h12 := s.loadBits_word ea 16 3 (by omega) (by omega)
  rw [State.setFQ, ← BitVec.setWidth_eq_extractLsb' (by omega), setFD_loadBits s ea t dest (by omega) (by omega),
    State.setFD, hreg, extractLsb'_extractLsb' _ (by omega), extractLsb'_extractLsb' _ (by omega)]
  exact congr (congrArg (fun a b => (State.setFS _ (dest + 2) a).setFS (dest + 3) b) h8) h12

end

/-- The bytes of a register survive its extension to the width of a store. -/
theorem setWidth_byte {w : Nat} (v : BitVec w) {k : Nat} (hk : k < 16) :
    (v.setWidth 128).extractLsb' (8 * k) 8 = v.extractLsb' (8 * k) 8 :=
  BitVec.extractLsb'_setWidth_of_le (by omega)

section
variable (s : State) (i : Reg)

theorem State.FD_byte {k : Nat} (hk : k < 8) :
    (s.FD i).extractLsb' (8 * k) 8 = (s.FS (i + BitVec.ofNat 5 (k / 4))).extractLsb' (8 * (k % 4)) 8 := by
  unfold State.FD
  by_cases h : k < 4
  · rw [BitVec.extractLsb'_append_eq_of_add_le (by omega), Nat.mod_eq_of_lt h, Nat.div_eq_of_lt h, BitVec.add_zero]
  · have hdiv : k / 4 = 1 := by omega
    have hmod : 8 * k - 32 = 8 * (k % 4) := by omega
    rw [BitVec.extractLsb'_append_eq_of_le (by omega), hdiv, hmod]
    rfl

theorem State.FQ_byte {k : Nat} (hk : k < 16) :
    (s.FQ i).extractLsb' (8 * k) 8 = (s.FS (i + BitVec.ofNat 5 (k / 4))).extractLsb' (8 * (k % 4)) 8 := by
  unfold State.FQ
  by_cases h : k < 8
  · rw [BitVec.extractLsb'_append_eq_of_add_le (by omega), s.FD_byte i h]
  · obtain ⟨j, rfl⟩ : ∃ j, k = j + 8 := ⟨k - 8, by omega⟩
    have hreg : i + 2 + BitVec.ofNat 5 (j / 4) = i + BitVec.ofNat 5 ((j + 8) / 4) := by
      rw [show (j + 8) / 4 = 2 + j / 4 by omega, BitVec.ofNat_add, BitVec.add_assoc]
      rfl
    have hmod : (j + 8) % 4 = j % 4 := by omega
    rw [BitVec.extractLsb'_append_eq_of_le (by omega), show 8 * (j + 8) - 64 = 8 * j by omega,
      s.FD_byte (i + 2) (by omega), hreg, hmod]

end

/-! ## Bad data accesses (R150, R405) -/

/-- What the word does not refuse takes the trap DAT with nothing written. -/
def Eff.FaultsOnData (s : State) (e : Eff) : Prop := e.staticRefusal = none → e = .trap .dat s

theorem faultsOnData_demand {s : State} {b : Bool} {r : Refusal} {k : Eff} (hr : r.static = true)
    (hk : k.FaultsOnData s) : (demand b r k).FaultsOnData s := by
  cases b
  case true => exact hk
  case false =>
    intro h
    simp [Eff.staticRefusal, hr] at h

section
variable {s : State} {ea : Word} {n : Nat}

theorem checkData_accessible (h : s.accessible ea n) (k : Eff) : checkData s ea n k = k :=
  checkData_ok s ea n k ((accessible_iff s ea n).1 h)

theorem checkData_inaccessible (h : ¬s.accessible ea n) (k : Eff) : checkData s ea n k = .trap .dat s :=
  if_neg fun hk => h ((accessible_iff s ea n).2 hk)

theorem faultsOnData_storeData (h : ¬s.accessible ea n) (v : BitVec 128) (auto : Bool) (base : Reg) :
    (storeData n v auto base ea s).FaultsOnData s := fun _ => checkData_inaccessible h _

variable (hr : DataReady s)
include hr

theorem faultsOnData_reportResult {k : Eff} (hk : k.FaultsOnData s) : (reportResult s k).FaultsOnData s := by
  rw [reportResult_none s k hr.2]
  exact hk

theorem faultsOnData_loadFp (h : ¬s.accessible ea n) (write : State → BitVec 128 → State) (auto : Bool) (base : Reg) :
    (loadFp n write auto base ea s).FaultsOnData s := fun _ =>
  (mayReportResult_none s _ hr.2).trans (checkData_inaccessible h _)

theorem faultsOnData_pipedLoad {p : Prec} (h : ¬s.accessible ea p.bytes) (auto : Bool) (base dest : Reg) :
    (pipedLoad p auto base dest ea s).FaultsOnData s := fun _ =>
  (mayReportResult_none s _ hr.2).trans (checkData_inaccessible h _)

/-- Every instruction that accesses data checks the access before any write. -/
theorem effect_faultsOnData {i : Instr} (hi : dataAccess s i = some (ea, n)) (h : ¬s.accessible ea n) :
    (effect i s).FaultsOnData s := by
  cases i
  all_goals cases hi
  case ldbR | ldbI | ldsR | ldsI | ldlR | ldlI => exact fun _ => checkData_inaccessible h _
  case stb | sts | stl => exact faultsOnData_storeData h _ _ _
  case fldlI =>
    dsimp only [effect, effFldlI]
    exact faultsOnData_loadFp hr h _ _ _
  case fldlR | flddI | fldqI => exact faultsOnData_demand rfl (faultsOnData_loadFp hr h _ _ _)
  case flddR | fldqR =>
    exact faultsOnData_demand rfl (faultsOnData_demand rfl (faultsOnData_loadFp hr h _ _ _))
  case fstlI => exact faultsOnData_reportResult hr (faultsOnData_storeData h _ _ _)
  case fstlR | fstdI | fstqI =>
    exact faultsOnData_demand rfl (faultsOnData_reportResult hr (faultsOnData_storeData h _ _ _))
  case fstdR | fstqR =>
    exact faultsOnData_demand rfl
      (faultsOnData_demand rfl (faultsOnData_reportResult hr (faultsOnData_storeData h _ _ _)))
  case pfldlI | pflddI => exact faultsOnData_pipedLoad hr h _ _ _
  case pfldlR | pflddR => exact faultsOnData_demand rfl (faultsOnData_pipedLoad hr h _ _ _)
  case pstd => exact faultsOnData_demand rfl (faultsOnData_reportResult hr fun _ => checkData_inaccessible h _)

end

/-- An instruction that accesses data has no D-bit and is no control transfer. -/
theorem dataAccess_core {i : Instr} {s : State} {x : Word × Nat} (h : dataAccess s i = some x) :
    dbit i = none ∧ isControl i = false := by
  cases i <;> cases h <;> exact ⟨rfl, rfl⟩

/-- Settles O20: the check of the access comes before every write, and outside a locked sequence the trap is taken. -/
theorem badDataAccessTrapsBeforeAnyWrite : Obligations.BadDataAccessTrapsBeforeAnyWrite := by
  intro i s ea n hi ha hr hbl hstatic
  obtain ⟨hd, hc⟩ := dataAccess_core hi
  rw [exec_of_trap hr.1 (by simp [hd]) (by simp [hc]) (effect_faultsOnData hr hi ha hstatic)]
  exact s.takeTrap_of .dat s.pc false hbl

/-! ## Integer loads (R151 to R153) -/

section
variable {i : Instr} {s : State} {ea : Word} {n : Nat} {auto : Bool} {base dest : Reg}

theorem gives_loadInt {ext : BitVec 128 → Word} {v : Word} (hs : CoreReady s) (hd : dbit i = none)
    (hc : isControl i = false) (he : effect i s = loadInt n ext dest ea s) (hv : ext (s.loadBits ea n) = v)
    (ha : s.accessible ea n) : Gives i false s ((s.afterLoad ea n).setR dest v) := by
  refine gives_core hs hd hc (he.trans ?_)
  rw [loadInt, checkData_accessible ha, State.loaded_eq, hv]

/-! ## Floating-point loads (R157 to R159, R170) -/

/-- Restriction f is met where an indexed autoincrement names two registers (R170). -/
theorem indexOk_of {src1 src2 : Reg} (h : auto = true → src1 ≠ src2) : indexOk auto src1 src2 = true := by
  cases auto
  case false => rfl
  case true => simpa [indexOk] using h

theorem gives_loadFp {write : State → BitVec 128 → State} {t : State} (hs : DataReady s) (hd : dbit i = none)
    (hc : isControl i = false) (he : effect i s = loadFp n write auto base ea s)
    (ht : write (s.afterLoad ea n) (s.loadBits ea n) = t) (ha : s.accessible ea n) :
    Gives i false s (t.withBase auto base ea) := by
  refine gives_core hs.1 hd hc (he.trans ?_)
  rw [loadFp, mayReportResult_none _ _ hs.2, checkData_accessible ha, State.loaded_eq, ht, State.increment_eq]

/-! ## Stores (R154 to R156, R160 to R162) -/

theorem State.mem_storeBits_undef (s : State) (ea : Word) (n : Nat) (v : BitVec 128) (x : Nat) :
    x ∈ (s.storeBits ea n v).undef ↔ x ∈ s.undef ∧ ¬(ea.toNat ≤ x ∧ x < ea.toNat + n) := by
  simp only [State.storeBits, List.mem_filter, ← Bool.decide_and, ← decide_not, decide_eq_true_eq]

theorem State.mem_storeBits_stored (s : State) (v : BitVec 128) (x : Nat)
    (hn : n = 1 ∨ n = 2 ∨ n = 4 ∨ n = 8 ∨ n = 16) (h : ea.toNat % n = 0) :
    x ∈ (s.storeBits ea n v).stored ↔ x ∈ s.stored ∨ x % 4 = 0 ∧ x < ea.toNat + n ∧ ea.toNat < x + 4 := by
  simp only [State.storeBits, mem_foldr_insertRising, mem_touchedWords _ _ _ hn h]
  exact or_comm

/-- A store of an aligned width writes its bytes and takes their notes (R163, R80). -/
theorem stores_storeData {v : BitVec 128} {bytes : Nat → Byte} (hs : s.mode = .single) (hm : MemoryCanonical s)
    (hd : dbit i = none) (hc : isControl i = false) (hn : n = 1 ∨ n = 2 ∨ n = 4 ∨ n = 8 ∨ n = 16)
    (he : effect i s = storeData n v auto base ea s) (hv : ∀ k < n, v.extractLsb' (8 * k) 8 = bytes k)
    (ha : s.accessible ea n) (hp : s.pfldPending ea n = false) : Stores i s ea n bytes auto base := by
  have hdvd : n ∣ 2 ^ 32 := by rcases hn with rfl | rfl | rfl | rfl | rfl <;> decide
  have hget (x : Nat) := State.storeBits_get s.afterAccess ea n v x hm (aligned_inside ea n ha.1 hdvd)
  refine ⟨(s.afterAccess.storeBits ea n v).mem, (s.afterAccess.storeBits ea n v).undef,
    (s.afterAccess.storeBits ea n v).stored, gives_core hs hd hc (he.trans ?_), fun x => ?mem,
    s.afterAccess.mem_storeBits_undef ea n v, fun x => s.afterAccess.mem_storeBits_stored v x hn ha.1⟩
  · rw [storeData, checkData_accessible ha, hp, State.accessed_eq, State.increment_eq]
    rfl
  case mem =>
    rw [hget]
    split
    · exact hv _ (by omega)
    · rfl

/-! ## Pipelined loads (R164 to R166) -/

section
variable {p : Prec}

/-- An entry with data goes to the destination with its own width (R164). -/
theorem deliverLoad_val {q : Prec} (h : q.fits dest = true) (a : Word) (v : DWord) :
    deliverLoad s (.val a v q) dest p = .ok (s.fwrite dest q v) := if_pos h

/-- f0 and f1 discard an undefined entry, and no free value is drawn (R31). -/
theorem deliverLoad_undef_zero (h : dest = 0 ∨ dest = 1) : deliverLoad s .undef dest p = .ok s :=
  if_pos ((isFZero_iff dest).2 h)

/-- An undefined entry is a free value of the delivering instruction's width (U7). -/
theorem deliverLoad_undef (h : ¬(dest = 0 ∨ dest = 1)) (hp : p.fits dest = true) :
    deliverLoad s .undef dest p = .ok (s.tick.fwrite dest p s.drawn) := by
  rw [deliverLoad, if_neg (mt (isFZero_iff dest).1 h), if_pos hp]

theorem gives_pipedLoad {data : DWord} {t : State} (hs : DataReady s) (hd : dbit i = none) (hc : isControl i = false)
    (he : effect i s = pipedLoad p auto base dest ea s) (hv : (s.loadBits ea p.bytes).setWidth 64 = data)
    (ha : s.accessible ea p.bytes) (ht : deliverLoad (s.afterLoad ea p.bytes) s.lPipe.q3 dest p = .ok t) :
    Gives i false s ({ t with lPipe := ⟨.val ea data p, s.lPipe.q1, s.lPipe.q2⟩ }.withBase auto base ea) := by
  refine gives_core hs.1 hd hc (he.trans ?_)
  rw [pipedLoad, mayReportResult_none _ _ hs.2, checkData_accessible ha, State.loaded_eq, ht, hv]
  rfl

end

/-- What a pfld does, by the entry that leaves the load pipeline. -/
theorem gives_pfld {p : Prec} {data : DWord} (hs : DataReady s) (hd : dbit i = none) (hc : isControl i = false)
    (he : effect i s = pipedLoad p auto base dest ea s) (hv : (s.loadBits ea p.bytes).setWidth 64 = data)
    (ha : s.accessible ea p.bytes) :
    let u := s.afterLoad ea p.bytes
    let enter (t : State) : State := { t with lPipe := ⟨.val ea data p, s.lPipe.q1, s.lPipe.q2⟩ }
    (∀ a v q, s.lPipe.q3 = .val a v q → q.fits dest = true →
      Gives i false s ((enter (u.fwrite dest q v)).withBase auto base ea)) ∧
    (s.lPipe.q3 = .undef → (dest = 0 ∨ dest = 1) → Gives i false s ((enter u).withBase auto base ea)) ∧
    (s.lPipe.q3 = .undef → ¬(dest = 0 ∨ dest = 1) → p.fits dest = true →
      Gives i false s ((enter (u.tick.fwrite dest p u.drawn)).withBase auto base ea)) := by
  refine ⟨fun a v q hq hf => ?_, fun hq hz => ?_, fun hq hz hf => ?_⟩
  · exact gives_pipedLoad hs hd hc he hv ha (by rw [hq, deliverLoad_val hf])
  · exact gives_pipedLoad hs hd hc he hv ha (by rw [hq, deliverLoad_undef_zero hz])
  · exact gives_pipedLoad hs hd hc he hv ha (by rw [hq, deliverLoad_undef hz hf])

end

/-! ## Pixel stores (R167) -/

theorem pixelBytes_cases {ps : BitVec 2} {b : Nat} (h : pixelBytes ps = some b) : b = 1 ∨ b = 2 ∨ b = 4 := by
  unfold pixelBytes at h
  split at h <;> simp_all

theorem mem_enabledPixels {pm : Byte} {b i : Nat} :
    i ∈ enabledPixels pm b ↔ i < 8 / b ∧ pm.getLsbD i = true := by
  simp [enabledPixels]

/-- The byte at `x` belongs to a listed pixel of `b` bytes, pixel 0 at `ea`. -/
def InPixels (ea : Word) (b : Nat) (l : List Nat) (x : Nat) : Prop := ea.toNat ≤ x ∧ (x - ea.toNat) / b ∈ l

section
variable {ea : Word} {b : Nat}

/-- A pixel of an eight-byte access inside the address space does not wrap around. -/
theorem pixel_toNat (hea : ea.toNat + 8 ≤ 2 ^ 32) (hb : 0 < b) {i : Nat} (hi : i < 8 / b) :
    (ea + BitVec.ofNat 32 (i * b)).toNat = ea.toNat + i * b := by
  have hlt : i * b < 8 := Nat.lt_of_lt_of_le (Nat.mul_lt_mul_of_pos_right hi hb) (Nat.div_mul_le_self 8 b)
  rw [BitVec.toNat_add, BitVec.toNat_ofNat]
  omega

theorem inPixels_nil {x : Nat} : ¬InPixels ea b [] x := fun h => List.not_mem_nil h.2

theorem inPixels_cons (hb : 0 < b) {i : Nat} {l : List Nat} {x : Nat} :
    InPixels ea b (i :: l) x ↔ (ea.toNat + i * b ≤ x ∧ x < ea.toNat + i * b + b) ∨ InPixels ea b l x := by
  have hdiv : ea.toNat ≤ x ∧ (x - ea.toNat) / b = i ↔ ea.toNat + i * b ≤ x ∧ x < ea.toNat + i * b + b := by
    rw [Nat.div_eq_iff hb]
    omega
  rw [InPixels, InPixels, List.mem_cons, and_or_left, hdiv]

/-- A word overlaps `n` bytes where one of its four bytes is among them. -/
theorem word_overlaps_iff {a n x : Nat} (hn : 0 < n) :
    x < a + n ∧ a < x + 4 ↔ ∃ k < 4, a ≤ x + k ∧ x + k < a + n := by
  constructor
  · rintro ⟨hx, ha⟩
    exact ⟨a - x, by omega, by omega, by omega⟩
  · rintro ⟨k, hk, ha, hx⟩
    omega

section
variable (hea : ea.toNat + 8 ≤ 2 ^ 32) (hb : b = 1 ∨ b = 2 ∨ b = 4) {l : List Nat} (hl : ∀ i ∈ l, i < 8 / b)
  {s : State} (v : BitVec 128)
include hea hb hl

/-- Memory after a pixel store: each byte of a listed pixel comes from its place in the value, every other byte is
left. -/
theorem storePixels_get (hm : MemoryCanonical s) (x : Nat) :
    (InPixels ea b l x → Memory.get (storePixels s ea b v l).mem x = v.extractLsb' (8 * (x - ea.toNat)) 8) ∧
    (¬InPixels ea b l x → Memory.get (storePixels s ea b v l).mem x = Memory.get s.mem x) := by
  have hb0 : 0 < b := by omega
  induction l generalizing s with
  | nil => exact ⟨fun h => absurd h inPixels_nil, fun _ => rfl⟩
  | cons i l ih =>
    obtain ⟨hi, hl⟩ := List.forall_mem_cons.1 hl
    have hin := pixel_inside hea hi
    have hget := State.storeBits_get s (ea + BitVec.ofNat 32 (i * b)) b (v >>> (8 * b * i)) x hm hin
    obtain ⟨hwritten, hkept⟩ := ih hl (State.storeBits_wf s _ b (v >>> (8 * b * i)) hm hin)
    rw [pixel_toNat hea hb0 hi, extractLsb'_ushiftRight] at hget
    rw [inPixels_cons hb0]
    by_cases hrest : InPixels ea b l x
    · exact ⟨fun _ => hwritten hrest, fun h => absurd (.inr hrest) h⟩
    · refine ⟨fun h => (hkept hrest).trans ?_, fun h => (hkept hrest).trans ?_⟩
      · have hx := h.resolve_right hrest
        have hplace : 8 * b * i + 8 * (x - (ea.toNat + i * b)) = 8 * (x - ea.toNat) := by
          rw [Nat.mul_assoc, Nat.mul_comm b i]
          omega
        rw [hget, if_pos hx, hplace]
      · rw [hget, if_neg fun hx => h (.inl hx)]

/-- The bytes of the listed pixels are no longer undefined (R163). -/
theorem mem_storePixels_undef (x : Nat) :
    x ∈ (storePixels s ea b v l).undef ↔ x ∈ s.undef ∧ ¬InPixels ea b l x := by
  have hb0 : 0 < b := by omega
  induction l generalizing s with
  | nil => exact ⟨fun h => ⟨h, inPixels_nil⟩, And.left⟩
  | cons i l ih =>
    obtain ⟨hi, hl⟩ := List.forall_mem_cons.1 hl
    refine (ih hl).trans ?_
    rw [State.mem_storeBits_undef, pixel_toNat hea hb0 hi, inPixels_cons hb0, not_or, and_assoc]

/-- The words of the listed pixels may not be fetched any more (R80). -/
theorem mem_storePixels_stored (ha : ea.toNat % 8 = 0) (x : Nat) :
    x ∈ (storePixels s ea b v l).stored ↔ x ∈ s.stored ∨ x % 4 = 0 ∧ ∃ k < 4, InPixels ea b l (x + k) := by
  have hb0 : 0 < b := by omega
  induction l generalizing s with
  | nil => simp [storePixels, inPixels_nil]
  | cons i l ih =>
    obtain ⟨hi, hl⟩ := List.forall_mem_cons.1 hl
    have hpixel := pixel_toNat hea hb0 hi
    have haligned : (ea + BitVec.ofNat 32 (i * b)).toNat % b = 0 := by
      rw [hpixel, Nat.add_mul_mod_self_right]
      rcases hb with rfl | rfl | rfl <;> omega
    refine (ih hl).trans ?_
    rw [State.mem_storeBits_stored _ _ _ (hb.imp_right (Or.imp_right Or.inl)) haligned, hpixel, word_overlaps_iff hb0]
    simp only [inPixels_cons hb0, and_or_left, exists_or, or_assoc]

end

/-- The pixels that PM enables, as bytes (R167). -/
theorem inPixels_enabled (hb : b = 1 ∨ b = 2 ∨ b = 4) (pm : Byte) (x : Nat) :
    InPixels ea b (enabledPixels pm b) x ↔
      ea.toNat ≤ x ∧ x < ea.toNat + 8 ∧ pm.getLsbD ((x - ea.toNat) / b) = true := by
  rw [InPixels, mem_enabledPixels]
  refine and_congr_right fun hx => and_congr_left fun _ => ?_
  rcases hb with rfl | rfl | rfl <;> omega

/-- What a pixel store leaves, where no pfld waits for its pixels (R166, R167). -/
theorem pixelStore_ok {s : State} {auto : Bool} {base dest : Reg} (hps : pixelBytes s.psr.ps = some b)
    (ha : s.accessible ea 8)
    (hp : ∀ i < 8 / b, s.psr.pm.getLsbD i = true → s.pfldPending (ea + BitVec.ofNat 32 (i * b)) b = false) :
    let u := storePixels s.afterAccess ea b ((s.FD dest).setWidth 128) (enabledPixels s.psr.pm b)
    pixelStore auto base dest ea s = .ok (({ s.afterAccess with
      mem := u.mem, undef := u.undef, stored := u.stored,
      psr := { s.psr with pm := BitVec.ofNat 8 (s.psr.pm.toNat / 2 ^ (8 / b)) } }).withBase auto base ea) .seq := by
  have hnone : ((enabledPixels s.psr.pm b).any fun i => s.pfldPending (ea + BitVec.ofNat 32 (i * b)) b) = false := by
    rw [List.any_eq_false]
    intro i hi
    obtain ⟨hlt, hpm⟩ := mem_enabledPixels.1 hi
    simp [hp i hlt hpm]
  obtain ⟨m, undef, stored, hu⟩ :=
    storePixels_keeps s.afterAccess ea b ((s.FD dest).setWidth 128) (enabledPixels s.psr.pm b)
  simp only [pixelStore, checkData_accessible ha, hps, hnone, State.accessed_eq, hu, ushiftRight_eq_ofNat_div]
  rfl

end

/-! ## The block of a flush (R163) -/

/-- The bytes of a cache block are those with the block's number. -/
theorem mem_cacheBlockBytes {ea : Word} {x : Nat} : x ∈ cacheBlockBytes ea ↔ x / 32 = ea.toNat / 32 := by
  simp only [cacheBlockBytes, Config.cacheBlock, List.mem_map, List.mem_range]
  constructor
  · rintro ⟨k, hk, rfl⟩
    omega
  · intro h
    exact ⟨x % 32, by omega, by omega⟩

/-! ## The instructions -/

/-- Settles O29: each form is an integer load, and the bytes of its value are the bytes at the address. -/
theorem integerLoadsReadMemory : Obligations.IntegerLoadsReadMemory := by
  intro src1 src2 dest off off' s hs
  simp only [← offset15_eq]
  exact ⟨gives_loadInt hs rfl rfl rfl (extByte_loadBits s _), gives_loadInt hs rfl rfl rfl (extHalf_loadBits s _),
    gives_loadInt hs rfl rfl rfl (loadBits_setWidth_word s _ (by omega) (by omega)),
    gives_loadInt hs rfl rfl rfl (extByte_loadBits s _), gives_loadInt hs rfl rfl rfl (extHalf_loadBits s _),
    gives_loadInt hs rfl rfl rfl (loadBits_setWidth_word s _ (by omega) (by omega))⟩

/-- Settles O30: each form is a store of the low bytes of its register. -/
theorem integerStoresWriteMemory : Obligations.IntegerStoresWriteMemory := by
  intro src1 src2 off off' s hs hm
  simp only [← offset15_eq]
  have hv {n : Nat} (hn : n ≤ 16) (k : Nat) (hk : k < n) :
      ((s.R src1).setWidth 128).extractLsb' (8 * k) 8 = (s.R src1).extractLsb' (8 * k) 8 :=
    setWidth_byte _ (by omega)
  exact ⟨stores_storeData hs hm rfl rfl (by decide) rfl (hv (by omega)),
    stores_storeData hs hm rfl rfl (by decide) rfl (hv (by omega)),
    stores_storeData hs hm rfl rfl (by decide) rfl (hv (by omega))⟩

/-- Settles O31: each form is a floating-point load, whose words fill its registers one by one. -/
theorem floatingLoadsReadMemory : Obligations.FloatingLoadsReadMemory := by
  intro auto src1 src2 dest off off' s hs
  simp only [← offset14_eq, ← offset13_eq]
  have one (t : State) (ea : Word) : t.setFS dest ((s.loadBits ea 4).setWidth 32) = t.setFS dest (s.loadWord ea 0) :=
    congrArg _ (loadBits_setWidth_word s ea (by omega) (by omega))
  have two (t : State) (ea : Word) := setFD_loadBits s ea t dest (n := 8) (by omega) (by omega)
  have four (t : State) (ea : Word) := setFQ_loadBits s ea t dest
  refine ⟨fun hx => ?_, ?_, fun hp => ⟨fun hx => ?_, ?_⟩, fun hq => ⟨fun hx => ?_, ?_⟩⟩
  · exact gives_loadFp hs rfl rfl (demand_of _ _ _ (indexOk_of hx)) (one _ _)
  · exact gives_loadFp (write := fun t v => t.setFS dest (v.setWidth 32)) hs rfl rfl rfl (one _ _)
  · exact gives_loadFp hs rfl rfl ((demand_of _ _ _ (isPair_of hp)).trans (demand_of _ _ _ (indexOk_of hx))) (two _ _)
  · exact gives_loadFp hs rfl rfl (demand_of _ _ _ (isPair_of hp)) (two _ _)
  · exact gives_loadFp hs rfl rfl ((demand_of _ _ _ (isQuad_of hq)).trans (demand_of _ _ _ (indexOk_of hx))) (four _ _)
  · exact gives_loadFp hs rfl rfl (demand_of _ _ _ (isQuad_of hq)) (four _ _)

/-- Settles O32: each form is a store of its registers, and no result exception is reported first. -/
theorem floatingStoresWriteMemory : Obligations.FloatingStoresWriteMemory := by
  intro auto src1 src2 dest off off' s hs hm
  simp only [← offset14_eq, ← offset13_eq]
  have one (k : Nat) (hk : k < 4) : ((s.FS dest).setWidth 128).extractLsb' (8 * k) 8 =
      (s.FS (dest + BitVec.ofNat 5 (k / 4))).extractLsb' (8 * (k % 4)) 8 := by
    rw [setWidth_byte _ (by omega), Nat.div_eq_of_lt hk, Nat.mod_eq_of_lt hk, BitVec.add_zero]
  have two (k : Nat) (hk : k < 8) := (setWidth_byte (s.FD dest) (k := k) (by omega)).trans (s.FD_byte dest hk)
  have four (k : Nat) (hk : k < 16) := s.FQ_byte dest hk
  have report (k : Eff) : reportResult s k = k := reportResult_none s k hs.2
  refine ⟨fun hx => ?_, ?_, fun hp => ⟨fun hx => ?_, ?_⟩, fun hq => ⟨fun hx => ?_, ?_⟩⟩
  · exact stores_storeData hs.1 hm rfl rfl (by decide) ((demand_of _ _ _ (indexOk_of hx)).trans (report _)) one
  · exact stores_storeData hs.1 hm rfl rfl (by decide) (report _) one
  · exact stores_storeData hs.1 hm rfl rfl (by decide) ((demand_of _ _ _ (isPair_of hp)).trans
      ((demand_of _ _ _ (indexOk_of hx)).trans (report _))) two
  · exact stores_storeData hs.1 hm rfl rfl (by decide) ((demand_of _ _ _ (isPair_of hp)).trans (report _)) two
  · exact stores_storeData hs.1 hm rfl rfl (by decide) ((demand_of _ _ _ (isQuad_of hq)).trans
      ((demand_of _ _ _ (indexOk_of hx)).trans (report _))) four
  · exact stores_storeData hs.1 hm rfl rfl (by decide) ((demand_of _ _ _ (isQuad_of hq)).trans (report _)) four

/-- Settles O33: each form is a pipelined load of its precision. -/
theorem pipelinedLoadsDeliverTheThirdPrevious : Obligations.PipelinedLoadsDeliverTheThirdPrevious := by
  intro auto src1 src2 dest off off' s hs
  simp only [← offset14_eq, ← offset13_eq]
  have double (ea : Word) := loadBits_setWidth_double s ea (n := 8) (by omega) (by omega)
  refine ⟨fun hx => ?_, ?_, fun hx => ?_, ?_⟩
  · exact gives_pfld hs rfl rfl (demand_of _ _ _ (indexOk_of hx)) (loadBits_four_setWidth s _)
  · exact gives_pfld hs rfl rfl rfl (loadBits_four_setWidth s _)
  · exact gives_pfld hs rfl rfl (demand_of _ _ _ (indexOk_of hx)) (double _)
  · exact gives_pfld hs rfl rfl rfl (double _)

/-- Settles O34: pst.d is the pixel store of the pixels that PM enables. -/
theorem pixelStoreWritesTheMaskedPixels : Obligations.PixelStoreWritesTheMaskedPixels := by
  intro auto src2 dest off s b hs hm hps hdest
  simp only [← offset13_eq]
  intro ha hp
  have hb := pixelBytes_cases hps
  have hea := aligned_inside _ 8 ha.1 (by decide)
  have hl (i : Nat) (hi : i ∈ enabledPixels s.psr.pm b) : i < 8 / b := (mem_enabledPixels.1 hi).1
  have hget (x : Nat) := storePixels_get hea hb hl ((s.FD dest).setWidth 128) (s := s.afterAccess) hm x
  have hundef := mem_storePixels_undef hea hb hl ((s.FD dest).setWidth 128) (s := s.afterAccess)
  have hstored := mem_storePixels_stored hea hb hl ((s.FD dest).setWidth 128) (s := s.afterAccess) ha.1
  simp only [inPixels_enabled hb] at hget hundef hstored
  refine ⟨_, _, _, gives_core hs.1 rfl rfl ((demand_of _ _ _ (isPair_of hdest)).trans
    ((reportResult_none s _ hs.2).trans (pixelStore_ok hps ha hp))), fun x hx => ?_, fun x => (hget x).2, hundef,
    hstored⟩
  exact ((hget x).1 hx).trans (BitVec.extractLsb'_setWidth_of_le (by omega))

/-- Settles O35: flush adds the bytes of the block to the undefined ones. -/
theorem flushLeavesMemoryAndMarksTheBlock : Obligations.FlushLeavesMemoryAndMarksTheBlock := by
  intro auto src2 off s hs
  simp only [← offset13_eq]
  refine ⟨_, gives_core hs rfl rfl rfl, fun x => ?_⟩
  rw [mem_foldr_insertRising, mem_cacheBlockBytes, or_comm]

/-- Settles O36: each transfer completes where no result exception is reported first. -/
theorem transfersBetweenRegisterFiles : Obligations.TransfersBetweenRegisterFiles := by
  intro src1 dest d s
  exact ⟨fun hs => gives_core hs.1 rfl rfl (mayReportResult_none s (fun s => .ok (s.setFS dest (s.R src1)) .seq) hs.2),
    fun hs => gives_fp hs rfl rfl (reportResult_none s _ hs.2.2)⟩

end Sys2Proof.Machine
end

section
/-!
PROOFS. Integer arithmetic: carries as bounds on true sums, results as arithmetic modulo 2^32, the bits of the logical
instructions, and shifts as multiplication and division (O23 to O28).
-/
namespace Sys2Proof.Machine

/-! ## Carries and flags (R181 to R184, R202) -/

/-- Bits 31 and 30 carry differently exactly where the signed sum of the adder's inputs leaves the range of a word. -/
theorem carry31_bne_carry30 (a b : Word) (c : Bool) :
    (carry31 a b c != carry30 a b c) =
      decide (a.toInt + b.toInt + c.toNat < -2 ^ 31 ∨ 2 ^ 31 ≤ a.toInt + b.toInt + c.toNat) := by
  have ha := a.isLt
  have hb := b.isLt
  have hc := c.toNat_le
  rw [Bool.eq_iff_iff, bne_iff_ne, ne_eq, Bool.eq_iff_iff]
  simp only [carry31, carry30, decide_eq_true_eq, BitVec.toInt_eq_toNat_cond, BitVec.toNat_setWidth]
  split <;> split <;> omega

/-- The sign bit of a wrapped value, corrected by overflow, is the sign of the true value (D8). -/
theorem msb_ofInt_bne_overflow {x : Int} (hlo : -2 ^ 32 ≤ x) (hhi : x < 2 ^ 32) :
    ((BitVec.ofInt 32 x).msb != decide (x < -2 ^ 31 ∨ 2 ^ 31 ≤ x)) = decide (x < 0) := by
  rw [Bool.eq_iff_iff, bne_iff_ne, ne_eq, Bool.eq_iff_iff, BitVec.msb_eq_toInt, BitVec.toInt_ofInt, Int.bmod_def]
  simp only [decide_eq_true_eq]
  split <;> omega

/-- The carry of `a + ~b + 1` is the absence of a borrow (R202). -/
theorem carry31_not (a b : Word) : carry31 a (~~~b) true = decide (b.toNat ≤ a.toNat) := by
  have hb := b.isLt
  rw [carry31, BitVec.toNat_not, Bool.toNat_true, decide_eq_decide]
  omega

section
variable (a b : Word)

theorem add_eq_ofInt : a + b = BitVec.ofInt 32 (a.toInt + b.toInt) := by
  rw [BitVec.ofInt_add, BitVec.ofInt_toInt, BitVec.ofInt_toInt]

theorem sub_eq_ofInt : a - b = BitVec.ofInt 32 (a.toInt - b.toInt) := by
  rw [Int.sub_eq_add_neg, BitVec.ofInt_add, BitVec.ofInt_neg, BitVec.ofInt_toInt, BitVec.ofInt_toInt,
    BitVec.sub_eq_add_neg]

theorem sub_eq_ofInt_toNat : a - b = BitVec.ofInt 32 (a.toNat - b.toNat) := by
  rw [Int.sub_eq_add_neg, BitVec.ofInt_add, BitVec.ofInt_neg, BitVec.ofInt_natCast, BitVec.ofInt_natCast,
    BitVec.ofNat_toNat, BitVec.ofNat_toNat, BitVec.setWidth_eq, BitVec.setWidth_eq, BitVec.sub_eq_add_neg]

theorem addsFlags_of :
    (addsFlags a b).of = decide (a.toInt + b.toInt < -2 ^ 31 ∨ 2 ^ 31 ≤ a.toInt + b.toInt) := by
  have hsum : a.toInt + b.toInt + false.toNat = a.toInt + b.toInt := Int.add_zero _
  rw [← hsum]
  exact carry31_bne_carry30 a b false

theorem addsFlags_cc : (addsFlags a b).cc = decide (a.toInt + b.toInt < 0) := by
  have ha := a.le_toInt
  have hb := b.le_toInt
  have ha' := a.toInt_lt
  have hb' := b.toInt_lt
  calc (addsFlags a b).cc = ((a + b).msb != (addsFlags a b).of) := rfl
    _ = _ := by rw [addsFlags_of, add_eq_ofInt, msb_ofInt_bne_overflow (by omega) (by omega)]

/-- The adder's inputs `a`, `~b` and 1 sum to the true difference. -/
theorem subsFlags_of :
    (subsFlags a b).of = decide (a.toInt - b.toInt < -2 ^ 31 ∨ 2 ^ 31 ≤ a.toInt - b.toInt) := by
  have hnot : (~~~b).toInt = -1 - b.toInt := by
    have hb := b.isLt
    rw [BitVec.toInt_eq_toNat_cond, BitVec.toInt_eq_toNat_cond, BitVec.toNat_not]
    split <;> split <;> omega
  have hsum : a.toInt + (~~~b).toInt + true.toNat = a.toInt - b.toInt := by
    rw [hnot, Bool.toNat_true]
    omega
  rw [← hsum]
  exact carry31_bne_carry30 a (~~~b) true

theorem subsFlags_cc : (subsFlags a b).cc = decide (a.toInt < b.toInt) := by
  have ha := a.le_toInt
  have hb := b.le_toInt
  have ha' := a.toInt_lt
  have hb' := b.toInt_lt
  calc (subsFlags a b).cc = ((a - b).msb != (subsFlags a b).of) := rfl
    _ = decide (a.toInt - b.toInt < 0) := by
      rw [subsFlags_of, sub_eq_ofInt, msb_ofInt_bne_overflow (by omega) (by omega)]
    _ = _ := decide_eq_decide.2 (by omega)

end

/-! ## Immediates and shift counts (R180, R192) -/

section
variable (imm : BitVec 16)

theorem immSigned_toInt : (immSigned imm).toInt = imm.toInt := BitVec.toInt_signExtend_of_le (by omega)

theorem immZero_getLsbD {k : Nat} (hk : k < 32) : (immZero imm).getLsbD k = (decide (k < 16) && imm.getLsbD k) := by
  rw [immZero, BitVec.zeroExtend, BitVec.getLsbD_setWidth]
  by_cases h : k < 16
  · rw [decide_eq_true hk, decide_eq_true h]
  · rw [BitVec.getLsbD_of_ge imm k (by omega), Bool.and_false, Bool.and_false]

theorem immHigh_getLsbD (k : Nat) : (immHigh imm).getLsbD k = (decide (16 ≤ k) && imm.getLsbD (k - 16)) := by
  rw [immHigh, BitVec.getLsbD_append]
  by_cases h : k < 16
  · rw [if_pos h, BitVec.getLsbD_zero, decide_eq_false (by omega), Bool.false_and]
  · rw [if_neg h, decide_eq_true (by omega), Bool.true_and]

theorem shiftCount_toNat (a : Word) : (shiftCount a).toNat = a.toNat % 32 := BitVec.toNat_setWidth ..

/-- Sign extension leaves the low five bits of an immediate alone. -/
theorem shiftCount_immSigned_toNat : (shiftCount (immSigned imm)).toNat = imm.toNat % 32 := by
  have h : shiftCount (immSigned imm) = imm.setWidth 5 := by
    apply BitVec.eq_of_getLsbD_eq
    intro k hk
    have h32 : k < 32 := by omega
    have h16 : k < 16 := by omega
    rw [shiftCount, immSigned, BitVec.getLsbD_setWidth, BitVec.getLsbD_setWidth, BitVec.getLsbD_signExtend, if_pos h16,
      decide_eq_true h32, Bool.true_and]
  rw [h, BitVec.toNat_setWidth]

end

/-! ## Shifts as multiplication and division (R194 to R197) -/

theorem shiftLeft_eq_ofNat_mul {w : Nat} (v : BitVec w) (n : Nat) : v <<< n = BitVec.ofNat w (v.toNat * 2 ^ n) := by
  apply BitVec.eq_of_toNat_eq
  rw [BitVec.toNat_shiftLeft, Nat.shiftLeft_eq, BitVec.toNat_ofNat]

theorem sshiftRight_eq_ofInt_div {w : Nat} (v : BitVec w) (n : Nat) :
    v.sshiftRight n = BitVec.ofInt w (v.toInt / 2 ^ n) := by
  rw [← BitVec.ofInt_toInt (x := v.sshiftRight n), BitVec.toInt_sshiftRight, Int.shiftRight_eq_div_pow, Int.natCast_pow]
  rfl

/-- Two words side by side are one number of two digits to the base 2^32. -/
theorem toNat_append_word (hi lo : Word) : (hi ++ lo).toNat = hi.toNat * 2 ^ 32 + lo.toNat := by
  rw [BitVec.toNat_append, ← Nat.shiftLeft_add_eq_or_of_lt lo.isLt, Nat.shiftLeft_eq]

theorem doubleShift_eq (hi lo : Word) (sc : BitVec 5) :
    doubleShift hi lo sc = BitVec.ofNat 32 ((hi.toNat * 2 ^ 32 + lo.toNat) / 2 ^ sc.toNat) := by
  apply BitVec.eq_of_toNat_eq
  rw [doubleShift, BitVec.toNat_setWidth, BitVec.toNat_ushiftRight, Nat.shiftRight_eq_div_pow, toNat_append_word,
    BitVec.toNat_ofNat]

/-! ## How each kind of instruction ends -/

section
variable {i : Instr} {s : State} {dest : Reg} {a b v : Word} (hs : CoreReady s) (hd : dbit i = none)
  (hc : isControl i = false)
include hs hd hc

theorem gives_adds (he : effect i s = setSum s dest (a + b) (addsFlags a b)) :
    Gives i false s ({ s with
      epsr := { s.epsr with of := decide (a.toInt + b.toInt < -2 ^ 31 ∨ 2 ^ 31 ≤ a.toInt + b.toInt) }
      psr := { s.psr with cc := decide (a.toInt + b.toInt < 0) } }.setR dest (BitVec.ofInt 32 (a.toInt + b.toInt))) := by
  rw [setSum, addsFlags_of, addsFlags_cc, add_eq_ofInt] at he
  exact gives_core hs hd hc he

theorem gives_subs (he : effect i s = setSum s dest (a - b) (subsFlags a b)) :
    Gives i false s ({ s with
      epsr := { s.epsr with of := decide (a.toInt - b.toInt < -2 ^ 31 ∨ 2 ^ 31 ≤ a.toInt - b.toInt) }
      psr := { s.psr with cc := decide (a.toInt < b.toInt) } }.setR dest (BitVec.ofInt 32 (a.toInt - b.toInt))) := by
  rw [setSum, subsFlags_of, subsFlags_cc, sub_eq_ofInt] at he
  exact gives_core hs hd hc he

theorem gives_addu (he : effect i s = setSum s dest (a + b) (adduFlags a b)) :
    Gives i false s ({ s with
      epsr := { s.epsr with of := decide (2 ^ 32 ≤ a.toNat + b.toNat) }
      psr := { s.psr with cc := decide (2 ^ 32 ≤ a.toNat + b.toNat) } }.setR dest
        (BitVec.ofNat 32 (a.toNat + b.toNat))) := by
  have hv : a + b = BitVec.ofNat 32 (a.toNat + b.toNat) := BitVec.add_def ..
  rw [hv] at he
  exact gives_core hs hd hc he

theorem gives_subu (he : effect i s = setSum s dest (a - b) (subuFlags a b)) :
    Gives i false s ({ s with
      epsr := { s.epsr with of := decide (a.toNat < b.toNat) }
      psr := { s.psr with cc := decide (b.toNat ≤ a.toNat) } }.setR dest (BitVec.ofInt 32 (a.toNat - b.toNat))) := by
  rw [setSum, subuFlags, carry31_not, sub_eq_ofInt_toNat, ← decide_not] at he
  simp only [Nat.not_le] at he
  exact gives_core hs hd hc he

/-- A logical instruction whose operator is `f` on each bit, with first operand of bits `x`. -/
theorem gives_logical {op : Word → Word → Word} {f : Bool → Bool → Bool} {x : Nat → Bool}
    (he : effect i s = setLogical s dest (op a b))
    (hop : ∀ u w : Word, ∀ k < 32, (op u w).getLsbD k = f (u.getLsbD k) (w.getLsbD k))
    (hx : ∀ k < 32, a.getLsbD k = x k) :
    ∃ v : Word, (∀ k < 32, v.getLsbD k = f (x k) (b.getLsbD k)) ∧
      Gives i false s ({ s with psr := { s.psr with cc := decide (v.toNat = 0) } }.setR dest v) := by
  refine ⟨op a b, fun k hk => by rw [hop a b k hk, hx k hk], gives_core hs hd hc (he.trans ?_)⟩
  have hzero : zeroFlag (op a b) = decide ((op a b).toNat = 0) := decide_eq_decide.2 BitVec.toNat_eq
  rw [setLogical, hzero]

theorem gives_setR {w : Word} (he : effect i s = .ok (s.setR dest v) .seq) (hv : v = w) :
    Gives i false s (s.setR dest w) :=
  gives_core hs hd hc (hv ▸ he)

theorem gives_shiftRight {count : BitVec 5} {n : Nat} (he : effect i s = shiftRight s dest count v)
    (hn : count.toNat = n) :
    Gives i false s ({ s with psr := { s.psr with sc := BitVec.ofNat 5 n } }.setR dest
      (BitVec.ofNat 32 (v.toNat / 2 ^ n))) := by
  subst hn
  rw [shiftRight, ushiftRight_eq_ofNat_div] at he
  rw [BitVec.ofNat_toNat, BitVec.setWidth_eq]
  exact gives_core hs hd hc he

end

/-- An instruction with a D-bit that reports no result exception, such as fnop. -/
theorem gives_dbit {i : Instr} {s t : State} {d : Bool} (hs : CoreReady s) (hd : dbit i = some d)
    (hc : isControl i = false) (harmed : s.armed = true → d = true) (he : effect i s = .ok t .seq) : Gives i d s t := by
  have hexit : s.armed = true → dbit i ≠ some false := by
    intro ha
    rw [hd, harmed ha]
    nofun
  have := exec_of_ok hs hexit (fun h => absurd (hc.symm.trans h) Bool.false_ne_true) he
  rwa [hd] at this

/-! ## The instructions -/

/-- Settles O23: both forms are the sum of two words, the immediate sign-extended. -/
theorem addsWritesSumAndFlags : Obligations.AddsWritesSumAndFlags := by
  intro src1 src2 dest imm s hs
  simp only [← immSigned_toInt]
  exact ⟨gives_adds hs rfl rfl rfl, gives_adds hs rfl rfl rfl⟩

/-- Settles O24: both forms are the difference of two words, the immediate sign-extended. -/
theorem subsWritesDifferenceAndFlags : Obligations.SubsWritesDifferenceAndFlags := by
  intro src1 src2 dest imm s hs
  simp only [← immSigned_toInt]
  exact ⟨gives_subs hs rfl rfl rfl, gives_subs hs rfl rfl rfl⟩

/-- Settles O25: the carry of a sum, and the absence of a borrow as the carry of a difference. -/
theorem adduAndSubuWriteCarries : Obligations.AdduAndSubuWriteCarries := by
  intro src1 src2 dest imm s hs
  exact ⟨gives_addu hs rfl rfl rfl, gives_addu hs rfl rfl rfl, gives_subu hs rfl rfl rfl, gives_subu hs rfl rfl rfl⟩

/-- Settles O26: four operators, each on a register, a zero-extended immediate and an immediate in the high half. -/
theorem logicalInstructionsWorkBitwise : Obligations.LogicalInstructionsWorkBitwise := by
  intro src1 src2 dest imm s hs
  have hreg (k : Nat) (_ : k < 32) : (s.R src1).getLsbD k = (s.R src1).getLsbD k := rfl
  have hlow (k : Nat) (hk : k < 32) := immZero_getLsbD imm hk
  have hhigh (k : Nat) (_ : k < 32) := immHigh_getLsbD imm k
  have hand (u w : Word) (k : Nat) (_ : k < 32) : (u &&& w).getLsbD k = (u.getLsbD k && w.getLsbD k) :=
    BitVec.getLsbD_and
  have hnot {u : Word} {x : Nat → Bool} (hx : ∀ k < 32, u.getLsbD k = x k) (k : Nat) (hk : k < 32) :
      (~~~u).getLsbD k = !x k := by
    rw [BitVec.getLsbD_not, hx k hk, decide_eq_true hk, Bool.true_and]
  have hor (u w : Word) (k : Nat) (_ : k < 32) : (u ||| w).getLsbD k = (u.getLsbD k || w.getLsbD k) :=
    BitVec.getLsbD_or
  have hxor (u w : Word) (k : Nat) (_ : k < 32) : (u ^^^ w).getLsbD k = (u.getLsbD k != w.getLsbD k) :=
    BitVec.getLsbD_xor
  exact ⟨gives_logical hs rfl rfl rfl hand hreg, gives_logical hs rfl rfl rfl hand hlow,
    gives_logical hs rfl rfl rfl hand hhigh, gives_logical hs rfl rfl rfl hand (hnot hreg),
    gives_logical hs rfl rfl rfl hand (hnot hlow), gives_logical hs rfl rfl rfl hand (hnot hhigh),
    gives_logical hs rfl rfl rfl hor hreg, gives_logical hs rfl rfl rfl hor hlow,
    gives_logical hs rfl rfl rfl hor hhigh, gives_logical hs rfl rfl rfl hxor hreg,
    gives_logical hs rfl rfl rfl hxor hlow, gives_logical hs rfl rfl rfl hxor hhigh⟩

/-- Settles O27: the count is the low five bits of a register or of an immediate. -/
theorem shiftsMultiplyAndDivide : Obligations.ShiftsMultiplyAndDivide := by
  intro src1 src2 dest imm s hs
  simp only [← shiftCount_toNat, ← shiftCount_immSigned_toNat]
  exact ⟨gives_setR hs rfl rfl rfl (shiftLeft_eq_ofNat_mul _ _), gives_setR hs rfl rfl rfl (shiftLeft_eq_ofNat_mul _ _),
    gives_shiftRight hs rfl rfl rfl rfl, gives_shiftRight hs rfl rfl rfl rfl,
    gives_setR hs rfl rfl rfl (sshiftRight_eq_ofInt_div _ _), gives_setR hs rfl rfl rfl (sshiftRight_eq_ofInt_div _ _)⟩

/-- Settles O28: shrd is core but for the word fnop, whose D-bit takes part in a mode change. -/
theorem shrdShiftsTheDoubleWord : Obligations.ShrdShiftsTheDoubleWord := by
  intro src1 src2 dest d s hs
  refine ⟨fun harmed => ?shrd, gives_setR hs rfl rfl rfl rfl, gives_core hs rfl rfl rfl, fun harmed => ?fnop⟩
  case shrd =>
    rw [← doubleShift_eq]
    by_cases hf : src1 = 0 ∧ src2 = 0 ∧ dest = 0
    case pos =>
      have hd : dbit (.shrd d src1 src2 dest) = some d := if_pos hf
      rw [decide_eq_true hf, Bool.true_and]
      exact gives_dbit hs hd rfl (harmed hf) rfl
    case neg =>
      have hd : dbit (.shrd d src1 src2 dest) = none := if_neg hf
      rw [decide_eq_false hf, Bool.false_and]
      exact gives_core hs hd rfl rfl
  case fnop => exact gives_dbit hs rfl rfl harmed rfl

end Sys2Proof.Machine
end

section
/-!
PROOFS. Control transfers: where a step of single-instruction mode goes on, branches on a condition, delayed transfers
and calls, bri as a jump and as a trap return, and bla (O17, O37 to O40).
-/
namespace Sys2Proof.Machine

/-! ## Moving on (R210, R382) -/

section
variable {s : State} (t : State) (m : ModeSel)

/-- In a delay slot control goes to the pending target, in the mode a trap return has selected (R210, R388). -/
theorem State.complete_slot {a : Word} (h : s.delay = some a) (c : Ctl) :
    s.complete t m c = { t with
      pc := a, delay := none, delayMode := none, skipCore := false
      mode := (s.delayMode.getD m).mode, armed := (s.delayMode.getD m).armed } := by
  rw [State.complete, h]

section
variable (h : s.delay = none)
include h

theorem State.complete_seq :
    s.complete t m .seq = { t with
      pc := s.pc + s.mode.width, delayMode := none, skipCore := false, mode := m.mode, armed := m.armed } := by
  rw [State.complete, h]

theorem State.complete_jump (a : Word) :
    s.complete t m (.jump a) = { t with
      pc := a, delayMode := none, skipCore := false, mode := m.mode, armed := m.armed } := by
  rw [State.complete, h]

theorem State.complete_delayed (a : Word) (sel : Option ModeSel) :
    s.complete t m (.delayed a sel) = { t with
      pc := s.pc + s.mode.width, delay := some a, delayMode := sel, skipCore := false
      mode := m.mode, armed := m.armed } := by
  rw [State.complete, h]

theorem State.complete_skip_single (hm : s.mode = .single) :
    s.complete t m .skip = { t with
      pc := s.pc + 4 + 4, delayMode := none, skipCore := false, mode := m.mode, armed := m.armed } := by
  rw [State.complete, h, hm]
  rfl

/-- Outside a delay slot the D-bit alone decides the next mode (R382). -/
theorem State.complete_mode_armed (hm : s.mode = .single) (c : Ctl) :
    (s.complete t m c).mode = m.mode ∧ (s.complete t m c).armed = m.armed := by
  cases c with
  | seq => rw [State.complete_seq t m h]; exact ⟨rfl, rfl⟩
  | jump a => rw [State.complete_jump t m h]; exact ⟨rfl, rfl⟩
  | delayed a sel => rw [State.complete_delayed t m h]; exact ⟨rfl, rfl⟩
  | skip => rw [State.complete_skip_single t m h hm]; exact ⟨rfl, rfl⟩

end

/-- Moving on writes the six parts that say where control stands, and nothing else. -/
theorem State.complete_eq_update (c : Ctl) :
    let n := s.complete t m c
    n = { t with pc := n.pc, delay := n.delay, delayMode := n.delayMode, skipCore := n.skipCore, mode := n.mode,
                 armed := n.armed } := by
  intro n
  have hframe : { n with
      pc := t.pc, delay := t.delay, delayMode := t.delayMode, skipCore := t.skipCore, mode := t.mode,
      armed := t.armed } = t := State.complete_frame s t m c
  rw [← hframe]

end

/-- The address after a delay slot, two instructions on, in single-instruction mode. -/
theorem add_four_add_four (a : Word) : a + 4 + 4 = a + 8 := BitVec.add_assoc a 4 4

/-- Settles O17: one equation of moving on for the slot and for each way control goes on outside it. -/
theorem sequenceModeAndDelaySlot : Obligations.SequenceModeAndDelaySlot := by
  intro s t d c hm n modeByDBit
  have hw : s.pc + s.mode.width = s.pc + 4 := by rw [hm]; rfl
  refine ⟨fun a ha => ?slot, fun hd => ⟨?mode, ?seq, ?jump, ?delayed, ?skip⟩, State.complete_eq_update t _ c⟩
  case slot =>
    have hn := State.complete_slot t ⟨if s.armed then .dual else .single, !s.armed && d⟩ ha c
    change n = _ at hn
    simp only [modeByDBit, hn]
    refine ⟨trivial, trivial, fun hdm => ?_, fun sel hdm => ?_⟩
    · rw [hdm]; exact ⟨rfl, rfl⟩
    · rw [hdm]; exact ⟨rfl, rfl⟩
  case mode => exact State.complete_mode_armed t _ hd hm c
  case seq =>
    rintro rfl
    exact (congrArg State.pc (State.complete_seq t _ hd)).trans hw
  case jump =>
    rintro a rfl
    exact congrArg State.pc (State.complete_jump t _ hd a)
  case delayed =>
    rintro a sel rfl
    have hn : n = _ := State.complete_delayed t _ hd a sel
    rw [hn]
    exact ⟨hw, rfl, rfl⟩
  case skip =>
    rintro rfl
    exact (congrArg State.pc (State.complete_skip_single t _ hd hm)).trans (add_four_add_four s.pc)

/-! ## How each kind of transfer ends -/

theorem TransferReady.mode {s : State} (hs : TransferReady s) : s.mode = .single := hs.1
theorem TransferReady.armed {s : State} (hs : TransferReady s) : s.armed = false := hs.2.1
theorem TransferReady.delay {s : State} (hs : TransferReady s) : s.delay = none := hs.2.2

section
variable {i : Instr} {s : State} (hs : TransferReady s)
include hs

/-- Outside a delay slot a transfer is not refused (R223). -/
theorem notInSlot_of_transferReady (k : Eff) : notInSlot s k = k := by
  rw [notInSlot, hs.delay]
  rfl

/-- A transfer whose effect is refused. -/
theorem refused_of_transferReady (hd : dbit i = none) {r : Refusal} (he : effect i s = .refuse r) :
    exec i s = .refused r :=
  exec_of_refuse hs.mode (by simp [hd]) (fun _ => hs.armed) he

/-- A delayed transfer of any kind: the instruction after it is next, then the target, in the mode selected. -/
theorem exec_delayed (hd : dbit i = none) {t : State} {a : Word} {sel : Option ModeSel}
    (he : effect i s = .ok t (.delayed a sel)) (hm : t.mode = .single) (ha : t.armed = false) :
    exec i s = .next { t with pc := s.pc + 4, delay := some a, delayMode := sel, skipCore := false } := by
  rw [exec_of_ok hs.mode (by simp [hd]) (fun _ => hs.armed) he, State.movedOn, State.complete_delayed _ _ hs.delay, hd,
    hs.mode, hs.armed]
  change Host.Outcome.next { t with
    pc := s.pc + 4, delay := some a, delayMode := sel, skipCore := false, mode := .single, armed := false } = _
  rw [← hm, ← ha]

theorem transfers_delayed (hd : dbit i = none) {t : State} {a : Word} (he : effect i s = .ok t (.delayed a none))
    (hm : t.mode = s.mode) (ha : t.armed = s.armed) : Transfers i s t (s.pc + 4) (some a) :=
  exec_delayed hs hd he (hm.trans hs.mode) (ha.trans hs.armed)

/-- A branch that takes effect at once (R211, R213, R219, R220). -/
theorem transfers_branchIf {p : Prop} {b : Bool} {a : Word} (hd : dbit i = none)
    (he : effect i s = branchIf b a s) (hb : b = true ↔ p) :
    (p → Transfers i s s a none) ∧ (¬p → Transfers i s s (s.pc + 4) none) := by
  rw [branchIf, notInSlot_of_transferReady hs] at he
  refine ⟨fun hp => ?holds, fun hp => ?fails⟩
  case holds =>
    rw [hb.2 hp] at he
    exact transfers_of hs hd he hs.mode hs.armed hs.delay (.inr (.inl ⟨rfl, rfl⟩))
  case fails =>
    rw [Bool.eq_false_iff.2 (mt hb.1 hp)] at he
    exact transfers_of hs hd he hs.mode hs.armed hs.delay (.inl ⟨rfl, rfl, rfl⟩)

/-- A branch that executes the next instruction first if taken, and skips it if not (R212, R214). -/
theorem transfers_branchOrSkip {p : Prop} {b : Bool} {a : Word} (hd : dbit i = none)
    (he : effect i s = branchOrSkip b a s) (hb : b = true ↔ p) :
    (p → Transfers i s s (s.pc + 4) (some a)) ∧ (¬p → Transfers i s s (s.pc + 8) none) := by
  rw [branchOrSkip, notInSlot_of_transferReady hs] at he
  refine ⟨fun hp => ?holds, fun hp => ?fails⟩
  case holds =>
    rw [hb.2 hp] at he
    exact transfers_delayed hs hd he rfl rfl
  case fails =>
    rw [Bool.eq_false_iff.2 (mt hb.1 hp)] at he
    rw [← add_four_add_four]
    exact transfers_of hs hd he hs.mode hs.armed hs.delay (.inr (.inr (.inr ⟨rfl, rfl, rfl⟩)))

/-- A call leaves the address after its slot in r1 (R221, R222). -/
theorem transfers_callTo (hd : dbit i = none) {a : Word} (he : effect i s = callTo a s) :
    Transfers i s (s.setR 1 (s.pc + 8)) (s.pc + 4) (some a) :=
  transfers_delayed hs hd he (State.setR_mode ..) (State.setR_armed ..)

end

/-! ## Branches and calls -/

/-- A five-bit immediate is compared zero-extended (R219). -/
theorem setWidth_eq_iff_toNat_eq (imm : BitVec 5) (a : Word) : imm.setWidth 32 = a ↔ imm.toNat = a.toNat := by
  rw [BitVec.toNat_eq, BitVec.toNat_setWidth_of_le (by decide)]

/-- Settles O37: each is a branch or a branch-or-skip on its own condition. -/
theorem conditionalBranchesGoWhereTheyShould : Obligations.ConditionalBranchesGoWhereTheyShould := by
  intro off off' src1 src2 imm s hs
  have hcc : (!s.psr.cc) = true ↔ s.psr.cc = false := by rw [Bool.not_eq_true']
  have hne {p : Prop} [Decidable p] : (!decide p) = true ↔ ¬p := by rw [Bool.not_eq_true', decide_eq_false_iff_not]
  simp only [← State.brx26_eq hs.mode, ← State.brx16_eq hs.mode, ← setWidth_eq_iff_toNat_eq, ne_eq]
  exact ⟨transfers_branchIf hs rfl rfl Iff.rfl, transfers_branchIf hs rfl rfl hcc,
    transfers_branchOrSkip hs rfl rfl Iff.rfl, transfers_branchOrSkip hs rfl rfl hcc,
    transfers_branchIf hs rfl rfl decide_eq_true_iff, transfers_branchIf hs rfl rfl hne,
    transfers_branchIf hs rfl rfl decide_eq_true_iff, transfers_branchIf hs rfl rfl hne⟩

theorem targetOk_of {a : Word} (h : a.toNat % 4 = 0) : targetOk a = true := decide_eq_true h

/-- In single-instruction mode call is admitted (R385). -/
theorem effect_call {s : State} (hs : TransferReady s) (off : BitVec 26) :
    effect (.call off) s = callTo (s.brx26 off) s :=
  (notInSlot_of_transferReady hs _).trans (demand_of _ _ _ (decide_eq_true hs.mode))

/-- In single-instruction mode calli asks for another register than r1 and an aligned target (R222). -/
theorem effect_calli {s : State} (hs : TransferReady s) (src1 : Reg) :
    effect (.calli src1) s = demand (!decide (src1 = 1)) .calliR1 (demand (targetOk (s.R src1)) .misalignedTarget
      (callTo (s.R src1) s)) :=
  (notInSlot_of_transferReady hs _).trans (demand_of _ _ _ (decide_eq_true hs.mode))

/-- Settles O38: three delayed transfers, two of them calls. -/
theorem branchesAndCallsAreDelayed : Obligations.BranchesAndCallsAreDelayed := by
  intro off src1 s hs
  rw [← State.brx26_eq hs.mode]
  refine ⟨?br, ?call, fun hreg halign => ?calli, ?calliR1⟩
  case br => exact transfers_delayed hs rfl (notInSlot_of_transferReady hs _) rfl rfl
  case call => exact transfers_callTo hs rfl (effect_call hs off)
  case calli =>
    refine transfers_callTo hs rfl ?_
    rw [effect_calli hs, decide_eq_false hreg, targetOk_of halign]
    rfl
  case calliR1 => exact refused_of_transferReady hs rfl (effect_calli hs 1)

/-! ## bri (R215, R217, R409, R416, R422) -/

theorem Psr.anyTrap_iff (p : Psr) :
    p.anyTrap = true ↔ p.it = true ∨ p.inn = true ∨ p.iat = true ∨ p.dat = true ∨ p.ft = true := by
  simp only [Psr.anyTrap, Bool.or_eq_true, or_assoc]

/-- A return to another address than the latest trap's is judged by the notes of all slot traps (R409). -/
theorem resumesInSlot_taken_iff (l : List Word) (fs : List TrapFrame) (a t : Word) (b : Bool) :
    resumesInSlot l (.taken a b :: fs) t = true ↔ if a = t then b = true else t ∈ l := by
  rw [resumesInSlot]
  split
  · exact Iff.rfl
  · exact List.contains_iff_mem

theorem resumesInSlot_nil_iff (l : List Word) (t : Word) : resumesInSlot l [] t = true ↔ t ∈ l :=
  List.contains_iff_mem

theorem resumesInSlot_lost_iff (l : List Word) (fs : List TrapFrame) (t : Word) :
    resumesInSlot l (.lost :: fs) t = true ↔ t ∈ l :=
  List.contains_iff_mem

section
variable {s : State} {a : Word}

/-- With KNF set a trap return is refused (R422). -/
theorem State.returnFromTrap_knf (hk : s.psr.knf = true) : s.returnFromTrap a = .refuse .returnWithKnf := by
  rw [State.returnFromTrap, hk]
  rfl

section
variable (hk : s.psr.knf = false)
include hk

/-- A trap return into a delay slot is refused (R225, R409). -/
theorem State.returnFromTrap_slot (hr : resumesInSlot s.slotFirs s.frames a = true) :
    s.returnFromTrap a = .refuse .returnIntoSlot := by
  rw [State.returnFromTrap, hk, hr]
  rfl

variable (hr : resumesInSlot s.slotFirs s.frames a = false)
include hr

/-- A trap return whose context is lost is refused (R416). -/
theorem State.returnFromTrap_lost (hl : contextLost s.frames = true) :
    s.returnFromTrap a = .refuse .outerContextLost := by
  rw [State.returnFromTrap, hk, hr, hl]
  rfl

/-- Any other trap return restores psr and selects the mode at its target (R215, R388). -/
theorem State.returnFromTrap_returns (hl : contextLost s.frames = false) :
    s.returnFromTrap a = .ok { s with psr := s.psr.afterReturn, frames := s.frames.tail }
      (.delayed a (some (modeSelected s.psr.ds s.psr.dim))) := by
  rw [State.returnFromTrap, hk, hr, hl]
  rfl

end

end

/-- Outside a delay slot bri checks its target, then jumps or returns from a trap. -/
theorem effect_bri {s : State} (hs : TransferReady s) (src1 : Reg) :
    effect (.bri src1) s = demand (targetOk (s.R src1)) .misalignedTarget
      (if s.psr.anyTrap then s.returnFromTrap (s.R src1) else .ok s (.delayed (s.R src1) none)) :=
  notInSlot_of_transferReady hs _

theorem effect_bri_jump {s : State} (hs : TransferReady s) {src1 : Reg} (halign : (s.R src1).toNat % 4 = 0)
    (ht : ¬s.psr.anyTrap = true) : effect (.bri src1) s = .ok s (.delayed (s.R src1) none) := by
  rw [effect_bri hs, targetOk_of halign, demand_true, if_neg ht]

theorem effect_bri_return {s : State} (hs : TransferReady s) {src1 : Reg} (halign : (s.R src1).toNat % 4 = 0)
    (ht : s.psr.anyTrap = true) : effect (.bri src1) s = s.returnFromTrap (s.R src1) := by
  rw [effect_bri hs, targetOk_of halign, demand_true, if_pos ht]

/-- Settles O39: a jump, a return, or the first of its checks that fails. -/
theorem briJumpsOrReturnsFromTrap : Obligations.BriJumpsOrReturnsFromTrap := by
  intro src1 s hs target resumes trapped
  have htrap : s.psr.anyTrap = true ↔ trapped := s.psr.anyTrap_iff
  have hslot : resumesInSlot s.slotFirs s.frames target = true ↔ resumes := by
    dsimp only [resumes]
    rcases s.frames with _ | ⟨_ | ⟨a, inSlot⟩, fs⟩
    · exact resumesInSlot_nil_iff ..
    · exact resumesInSlot_lost_iff ..
    · exact resumesInSlot_taken_iff ..
  have hnoSlot (hr : ¬resumes) : resumesInSlot s.slotFirs s.frames target = false :=
    Bool.eq_false_iff.2 (mt hslot.1 hr)
  refine ⟨fun halign => ?misaligned, fun halign ht => ?jump, fun halign ht hk => ?knf, fun halign ht hk hr => ?slot,
    fun halign ht hk hr hl => ?lost, fun halign ht hk hr hl => ?returns⟩
  case misaligned =>
    refine refused_of_transferReady hs rfl ?_
    have hbad : targetOk (s.R src1) = false := decide_eq_false halign
    rw [effect_bri hs, hbad, demand_false]
  case jump => exact transfers_delayed hs rfl (effect_bri_jump hs halign (mt htrap.1 ht)) rfl rfl
  all_goals have hreturn := effect_bri_return hs halign (htrap.2 ht)
  case knf => exact refused_of_transferReady hs rfl (hreturn.trans (State.returnFromTrap_knf hk))
  case slot => exact refused_of_transferReady hs rfl (hreturn.trans (State.returnFromTrap_slot hk (hslot.2 hr)))
  case lost =>
    have hlost : contextLost s.frames = true := decide_eq_true hl
    exact refused_of_transferReady hs rfl (hreturn.trans (State.returnFromTrap_lost hk (hnoSlot hr) hlost))
  case returns =>
    have hkept : contextLost s.frames = false := decide_eq_false hl
    exact exec_delayed hs rfl (hreturn.trans (State.returnFromTrap_returns hk (hnoSlot hr) hkept)) hs.mode hs.armed

/-! ## bla (R216) -/

/-- LCC receives the sign of the true sum (D8). -/
theorem lccFlag_eq (a b : Word) : lccFlag a b = decide (0 ≤ a.toInt + b.toInt) := by
  rw [lccFlag, addsFlags_cc, ← decide_not, decide_eq_decide, Int.not_lt]

theorem State.afterSlot_eq {s : State} (h : s.mode = .single) : s.afterSlot = s.pc + 8 := by
  rw [State.afterSlot, h]
  exact add_four_add_four s.pc

/-- Outside a delay slot bla is refused only where it names one register twice (R216). -/
theorem effect_bla {s : State} (hs : TransferReady s) {src1 src2 : Reg} (hne : src1 ≠ src2) (off : BitVec 16) :
    effect (.bla src1 src2 off) s =
      .ok ({ s with psr := { s.psr with lcc := lccFlag (s.R src1) (s.R src2) } }.setR src2 (s.R src1 + s.R src2))
        (.delayed (if s.psr.lcc then s.brx16 off else s.afterSlot) none) := by
  have hdistinct : (!decide (src1 = src2)) = true := by rw [decide_eq_false hne]; rfl
  exact (notInSlot_of_transferReady hs _).trans (demand_of _ _ _ hdistinct)

/-- Settles O40: one delayed transfer in both arms; the sum and its sign are those of the true sum. -/
theorem blaAddsAndBranchesOnTheOldLcc : Obligations.BlaAddsAndBranchesOnTheOldLcc := by
  intro src1 src2 off s hs hne sum
  rw [← State.brx16_eq hs.mode, ← State.afterSlot_eq hs.mode, ← lccFlag_eq, ← add_eq_ofInt]
  exact transfers_delayed hs rfl (effect_bla hs hne off) (State.setR_mode ..) (State.setR_armed ..)

end Sys2Proof.Machine
end

section
/-!
PROOFS. The control registers and the mode of the program: ld.c and st.c (O41, O42), trap, intovr, lock and unlock
(O43, O44), and what no step changes of them: the modelled part (O5) and, in user mode, supervisor state (O6).
-/
namespace Sys2Proof.Machine

/-! ## st.c in each mode (R243, R430) -/

section
variable {s : State} {v : Word}

theorem writePsr_user (hu : s.psr.u = true) : writePsr v s = .ok { s with psr := s.psr.writeUser v } .seq := if_pos hu

theorem writeDirbase_user (hu : s.psr.u = true) : writeDirbase v s = .ok s .seq := if_pos hu

theorem writeEpsr_user (hu : s.psr.u = true) : writeEpsr v s = .ok s .seq := if_pos hu

theorem writeDb_user (hu : s.psr.u = true) : writeC .db v s = .ok s .seq := if_pos hu

variable (hu : s.psr.u = false)
include hu

/-- In supervisor mode a value that sets BR or BW is refused. -/
theorem writePsr_supervisor : writePsr v s =
    demand (!(v.getLsbD 0 || v.getLsbD 1)) .dataBreakpoint (.ok { s with psr := s.psr.writeSupervisor v } .seq) := by
  rw [writePsr, hu, Bool.not_or]
  rfl

/-- In supervisor mode a value that sets ATE or ITI is refused. -/
theorem writeDirbase_supervisor : writeDirbase v s =
    demand (!(v.getLsbD 0 || v.getLsbD 5)) .addressTranslation (.ok { s with dirbase := Dirbase.ofWord v } .seq) := by
  rw [writeDirbase, hu, Bool.not_or]
  rfl

/-- In supervisor mode a value that sets BE is refused. -/
theorem writeEpsr_supervisor :
    writeEpsr v s = demand (!v.getLsbD 23) .bigEndian (.ok { s with epsr := s.epsr.write v } .seq) :=
  if_neg (Bool.eq_false_iff.1 hu)

theorem writeDb_supervisor : writeC .db v s = .ok { s with db := v } .seq := if_neg (Bool.eq_false_iff.1 hu)

end

/-! ## Supervisor state -/

/-- What only st.c in supervisor mode, a trap return and trap entry write: psr but CC, LCC, SC, PS and PM, epsr but OF,
dirbase but BL, and db (R243). -/
def State.privileged (s : State) : Psr × Epsr × Dirbase × Word :=
  ({ s.psr with cc := false, lcc := false, sc := 0, ps := 0, pm := 0 }, { s.epsr with of := false },
    { s.dirbase with bl := false }, s.db)

/-- States with the same supervisor state differ in the flags that user mode may write. -/
theorem State.eq_of_privileged {s t : State} (h : t.privileged = s.privileged) :
    t.psr = { s.psr with cc := t.psr.cc, lcc := t.psr.lcc, sc := t.psr.sc, ps := t.psr.ps, pm := t.psr.pm } ∧
      t.epsr = { s.epsr with of := t.epsr.of } ∧ t.dirbase = { s.dirbase with bl := t.dirbase.bl } ∧ t.db = s.db := by
  simp only [State.privileged, Prod.mk.injEq] at h
  obtain ⟨hpsr, hepsr, hdirbase, hdb⟩ := h
  refine ⟨?psr, ?epsr, ?dirbase, hdb⟩
  case psr =>
    exact congrArg (fun p : Psr =>
      { p with cc := t.psr.cc, lcc := t.psr.lcc, sc := t.psr.sc, ps := t.psr.ps, pm := t.psr.pm }) hpsr
  case epsr => exact congrArg (fun e : Epsr => { e with of := t.epsr.of }) hepsr
  case dirbase => exact congrArg (fun d : Dirbase => { d with bl := t.dirbase.bl }) hdirbase

/-- Supervisor state stands in four registers alone. -/
theorem State.privileged_congr {s t : State} (hpsr : t.psr = s.psr) (hepsr : t.epsr = s.epsr)
    (hdirbase : t.dirbase = s.dirbase) (hdb : t.db = s.db) : t.privileged = s.privileged := by
  rw [State.privileged, hpsr, hepsr, hdirbase, hdb]
  rfl

section
variable (s : State)

@[simp] theorem State.tick_privileged : s.tick.privileged = s.privileged := rfl

@[simp] theorem State.setR_privileged (i : Reg) (v : Word) : (s.setR i v).privileged = s.privileged := by
  simp [State.privileged]

@[simp] theorem State.setFS_privileged (i : Reg) (v : Word) : (s.setFS i v).privileged = s.privileged := by
  simp [State.privileged]

@[simp] theorem State.setFD_privileged (i : Reg) (v : DWord) : (s.setFD i v).privileged = s.privileged := by
  simp [State.privileged]

@[simp] theorem State.setFQ_privileged (i : Reg) (v : BitVec 128) : (s.setFQ i v).privileged = s.privileged := by
  simp [State.privileged]

@[simp] theorem State.fwrite_privileged (i : Reg) (p : Prec) (v : DWord) :
    (s.fwrite i p v).privileged = s.privileged := by simp [State.privileged]

@[simp] theorem State.accessed_privileged : s.accessed.privileged = s.privileged := by simp [State.privileged]

@[simp] theorem State.loaded_privileged (ea : Word) (n : Nat) : (s.loaded ea n).privileged = s.privileged := by
  simp [State.privileged]

@[simp] theorem State.storeBits_privileged (ea : Word) (n : Nat) (v : BitVec 128) :
    (s.storeBits ea n v).privileged = s.privileged := rfl

@[simp] theorem State.increment_privileged (auto : Bool) (base : Reg) (ea : Word) :
    (s.increment auto base ea).privileged = s.privileged := by simp [State.privileged]

@[simp] theorem State.afterReadC_privileged (c : CReg) : (s.afterReadC c).privileged = s.privileged := by
  simp [State.privileged]

@[simp] theorem State.complete_privileged (u : State) (m : ModeSel) (c : Ctl) :
    (s.complete u m c).privileged = u.privileged := by simp [State.privileged]

/-- In a pair only the core half writes supervisor state. -/
@[simp] theorem State.overlay_privileged (sf sc : State) : (s.overlay sf sc).privileged = sc.privileged := rfl

end

/-- An effect that leaves supervisor state as it is in `s`, whether the instruction completes or traps. -/
def Eff.KeepsPrivileged (s : State) (e : Eff) : Prop := e.All fun t => t.privileged = s.privileged

/-! ## The writers of supervisor state (R243) -/

/-- Instructions that may write supervisor state: st.c, and bri as a trap return. -/
def mayWritePrivileged : Instr → Bool
  | .stc _ _ => true
  | .bri _ => true
  | _ => false

theorem FpWrites.privileged {s t : State} (h : FpWrites s t) : t.privileged = s.privileged := by
  rw [State.privileged, h.psr, h.epsr, h.dirbase, h.db]
  rfl

/-- An instruction that traps has written no control register. -/
theorem Untouched.control {s t : State} (h : Untouched s t) :
    t.psr = s.psr ∧ t.epsr = s.epsr ∧ t.dirbase = s.dirbase ∧ t.db = s.db := by
  rw [h]
  exact ⟨rfl, rfl, rfl, rfl⟩

theorem Untouched.privileged {s t : State} (h : Untouched s t) : t.privileged = s.privileged := by
  obtain ⟨hpsr, hepsr, hdirbase, hdb⟩ := h.control
  exact State.privileged_congr hpsr hepsr hdirbase hdb

/-- A floating-point-format instruction writes CC and PM at most. -/
theorem Eff.FpHalf.keepsPrivileged {s : State} {e : Eff} (h : e.FpHalf s) : e.KeepsPrivileged s := by
  cases e
  case ok => exact h.1.privileged
  case trap => exact h.2.privileged
  case refuse => trivial

theorem keepsPrivileged_report {s : State} {k : Eff} (hk : k.KeepsPrivileged s) :
    (reportResult s k).KeepsPrivileged s := Eff.all_reportResult rfl hk

theorem keepsPrivileged_mayReport {s : State} {k : State → Eff}
    (hk : ∀ t, t.privileged = s.privileged → (k t).KeepsPrivileged s) : (mayReportResult s k).KeepsPrivileged s :=
  Eff.all_mayReportResult rfl (hk s rfl) (hk s.tick rfl)

theorem deliverLoad_privileged {s t : State} {old : LoadEntry} {dest : Reg} {p : Prec}
    (h : deliverLoad s old dest p = .ok t) : t.privileged = s.privileged := by
  rcases deliverLoad_ok h with ⟨_, _, _, _, _, rfl⟩ | ⟨_, _, rfl⟩ | ⟨_, _, rfl⟩
  · exact s.fwrite_privileged ..
  · rfl
  · exact s.tick.fwrite_privileged ..

section
variable (s : State)

theorem keepsPrivileged_setR (dest : Reg) (v : Word) (c : Ctl) : (Eff.ok (s.setR dest v) c).KeepsPrivileged s :=
  s.setR_privileged dest v

theorem keepsPrivileged_setSum (dest : Reg) (v : Word) (fl : SumFlags) :
    (setSum s dest v fl).KeepsPrivileged s := State.setR_privileged _ dest v

theorem keepsPrivileged_setLogical (dest : Reg) (v : Word) : (setLogical s dest v).KeepsPrivileged s :=
  State.setR_privileged _ dest v

theorem keepsPrivileged_shiftRight (dest : Reg) (n : BitVec 5) (v : Word) :
    (shiftRight s dest n v).KeepsPrivileged s := State.setR_privileged _ dest _

theorem keepsPrivileged_loadInt (n : Nat) (ext : BitVec 128 → Word) (dest : Reg) (ea : Word) :
    (loadInt n ext dest ea s).KeepsPrivileged s := Eff.all_checkData rfl (by simp [Eff.All])

theorem keepsPrivileged_storeData (n : Nat) (v : BitVec 128) (auto : Bool) (base : Reg) (ea : Word) :
    (storeData n v auto base ea s).KeepsPrivileged s :=
  Eff.all_checkData rfl (Eff.all_demand (by simp [Eff.All]))

theorem keepsPrivileged_loadFp {write : State → BitVec 128 → State}
    (hw : ∀ t v, (write t v).privileged = t.privileged) (n : Nat) (auto : Bool) (base : Reg) (ea : Word) :
    (loadFp n write auto base ea s).KeepsPrivileged s :=
  keepsPrivileged_mayReport fun t ht => Eff.all_checkData ht (by simp [Eff.All, hw, ht])

theorem keepsPrivileged_pipedLoad (p : Prec) (auto : Bool) (base dest : Reg) (ea : Word) :
    (pipedLoad p auto base dest ea s).KeepsPrivileged s := by
  refine keepsPrivileged_mayReport fun t ht => Eff.all_checkData ht ?_
  split
  · trivial
  · rename_i u hd
    have hu : u.privileged = s.privileged := by rw [deliverLoad_privileged hd, State.loaded_privileged, ht]
    exact (State.increment_privileged ..).trans hu

/-- pst.d shifts PM, which user mode may write (R167). -/
theorem keepsPrivileged_pixelStore (auto : Bool) (base dest : Reg) (ea : Word) :
    (pixelStore auto base dest ea s).KeepsPrivileged s := by
  refine Eff.all_checkData rfl ?_
  split
  · trivial
  · rename_i b _
    obtain ⟨m, undef, stored, hs⟩ :=
      storePixels_keeps s.accessed ea b ((s.FD dest).setWidth 128) (enabledPixels s.psr.pm b)
    refine Eff.all_demand ?_
    dsimp only
    rw [hs]
    exact (State.increment_privileged ..).trans s.accessed_privileged

theorem keepsPrivileged_flush (auto : Bool) (off : BitVec 13) (base : Reg) :
    (effFlush auto off base s).KeepsPrivileged s :=
  (State.increment_privileged ..).trans (State.privileged_congr rfl rfl rfl rfl)

theorem keepsPrivileged_bla (src1 src2 : Reg) (off : BitVec 16) : (effBla src1 src2 off s).KeepsPrivileged s :=
  Eff.all_demand (Eff.all_demand (State.setR_privileged ..))

theorem keepsPrivileged_intovr : (effIntovr s).KeepsPrivileged s := by
  refine Eff.all_demand ?_
  split
  · exact rfl
  · exact rfl

/-- Only st.c and bri may write supervisor state. -/
theorem effect_keepsPrivileged {i : Instr} (hi : mayWritePrivileged i = false) : (effect i s).KeepsPrivileged s := by
  by_cases hd : (dbit i).isSome = true
  · exact (effect_fpHalf i s hd).keepsPrivileged
  cases i
  case adduR | adduI | subuR | subuI | addsR | addsI | subsR | subsI => exact keepsPrivileged_setSum ..
  case andR | andI | andh | andnotR | andnotI | andnoth | orR | orI | orh | xorR | xorI | xorh =>
    exact keepsPrivileged_setLogical ..
  case shrR | shrI => exact keepsPrivileged_shiftRight ..
  case shlR | shlI | shraR | shraI | shrd | mov => exact keepsPrivileged_setR ..
  case ldbR | ldbI | ldsR | ldsI | ldlR | ldlI => exact keepsPrivileged_loadInt ..
  case stb | sts | stl => exact keepsPrivileged_storeData ..
  case fldlI =>
    dsimp only [effect, effFldlI]
    exact keepsPrivileged_loadFp s (fun _ _ => State.setFS_privileged ..) ..
  case fldlR => exact Eff.all_demand (keepsPrivileged_loadFp s (fun _ _ => State.setFS_privileged ..) ..)
  case flddI => exact Eff.all_demand (keepsPrivileged_loadFp s (fun _ _ => State.setFD_privileged ..) ..)
  case flddR =>
    exact Eff.all_demand (Eff.all_demand (keepsPrivileged_loadFp s (fun _ _ => State.setFD_privileged ..) ..))
  case fldqI => exact Eff.all_demand (keepsPrivileged_loadFp s (fun _ _ => State.setFQ_privileged ..) ..)
  case fldqR =>
    exact Eff.all_demand (Eff.all_demand (keepsPrivileged_loadFp s (fun _ _ => State.setFQ_privileged ..) ..))
  case fstlI => exact keepsPrivileged_report (keepsPrivileged_storeData ..)
  case fstlR | fstdI | fstqI => exact Eff.all_demand (keepsPrivileged_report (keepsPrivileged_storeData ..))
  case fstdR | fstqR =>
    exact Eff.all_demand (Eff.all_demand (keepsPrivileged_report (keepsPrivileged_storeData ..)))
  case pfldlR | pflddR => exact Eff.all_demand (keepsPrivileged_pipedLoad ..)
  case pfldlI | pflddI => exact keepsPrivileged_pipedLoad ..
  case pstd => exact Eff.all_demand (keepsPrivileged_report (keepsPrivileged_pixelStore ..))
  case flush => exact keepsPrivileged_flush ..
  case ixfr =>
    dsimp only [effect, effIxfr]
    exact keepsPrivileged_mayReport fun t ht => (t.setFS_privileged ..).trans ht
  case bc | bnc | bteR | bteI | btneR | btneI | bcT | bncT | br | trap => exact Eff.all_demand rfl
  case call => exact Eff.all_demand (Eff.all_demand (State.setR_privileged ..))
  case calli =>
    exact Eff.all_demand (Eff.all_demand (Eff.all_demand (Eff.all_demand (State.setR_privileged ..))))
  case bla => exact keepsPrivileged_bla ..
  case ldc => exact (State.setR_privileged ..).trans (s.afterReadC_privileged _)
  case intovr => exact keepsPrivileged_intovr s
  case lock | unlock | nop => exact rfl
  case stc | bri => exact absurd hi.symm Bool.false_ne_true
  all_goals exact absurd rfl hd

end

/-! ## The modelled part (R77, R243, R430) -/

/-- Whether a state is in the modelled part is a matter of supervisor state. -/
theorem InModelledPart.of_privileged {s t : State} (h : InModelledPart s) (e : t.privileged = s.privileged) :
    InModelledPart t := by
  obtain ⟨hpsr, hepsr, hdirbase, _⟩ := State.eq_of_privileged e
  rw [InModelledPart, hpsr, hepsr, hdirbase]
  exact h

/-- Trap entry leaves epsr, dirbase, BR and BW as they are (R405). -/
theorem InModelledPart.enterTrap {s : State} (h : InModelledPart s) (c : Cause) (fir : Word) (knf : Bool) :
    InModelledPart (s.enterTrap c fir knf) := h

theorem InModelledPart.complete {u : State} (h : InModelledPart u) (s : State) (m : ModeSel) (c : Ctl) :
    InModelledPart (s.complete u m c) := h.of_privileged (s.complete_privileged u m c)

/-- The continuation of a demand may use that its condition holds. -/
theorem Eff.all_demand_of {P : State → Prop} {b : Bool} {r : Refusal} {k : Eff} (h : b = true → k.All P) :
    (demand b r k).All P := by
  cases b
  case false => trivial
  case true => exact h rfl

section
variable {s : State} (h : InModelledPart s)
include h

theorem InModelledPart.writePsr (v : Word) : (writePsr v s).All InModelledPart := by
  obtain ⟨hbe, hate, hiti, hbr, hbw⟩ := h
  cases hu : s.psr.u
  case true =>
    rw [writePsr_user hu]
    exact ⟨hbe, hate, hiti, hbr, hbw⟩
  case false =>
    rw [writePsr_supervisor hu]
    refine Eff.all_demand_of fun hv => ?_
    rw [Bool.not_eq_true', Bool.or_eq_false_iff] at hv
    exact ⟨hbe, hate, hiti, hv.1, hv.2⟩

theorem InModelledPart.writeDirbase (v : Word) : (writeDirbase v s).All InModelledPart := by
  cases hu : s.psr.u
  case true =>
    rw [writeDirbase_user hu]
    exact h
  case false =>
    obtain ⟨hbe, _, _, hbr, hbw⟩ := h
    rw [writeDirbase_supervisor hu]
    refine Eff.all_demand_of fun hv => ?_
    rw [Bool.not_eq_true', Bool.or_eq_false_iff] at hv
    exact ⟨hbe, hv.1, hv.2, hbr, hbw⟩

/-- BE is no bit that st.c to epsr writes. -/
theorem InModelledPart.writeEpsr (v : Word) : (writeEpsr v s).All InModelledPart := by
  cases hu : s.psr.u
  case true =>
    rw [writeEpsr_user hu]
    exact h
  case false =>
    rw [writeEpsr_supervisor hu]
    exact Eff.all_demand h

theorem InModelledPart.stc (src1 : Reg) (c : CReg) : (effStc src1 c s).All InModelledPart := by
  cases c
  case fir | fsr => exact h
  case psr => exact h.writePsr _
  case dirbase => exact h.writeDirbase _
  case epsr => exact h.writeEpsr _
  case db =>
    show (writeC .db _ s).All _
    cases hu : s.psr.u
    case true =>
      rw [writeDb_user hu]
      exact h
    case false =>
      rw [writeDb_supervisor hu]
      exact h

/-- A trap return leaves BR and BW as they are (R215). -/
theorem InModelledPart.bri (src1 : Reg) : (effBri src1 s).All InModelledPart := by
  refine Eff.all_demand (Eff.all_demand ?_)
  split
  · exact Eff.all_demand (Eff.all_demand (Eff.all_demand h))
  · exact h

theorem effect_inModelledPart (i : Instr) : (effect i s).All InModelledPart := by
  cases hi : mayWritePrivileged i
  case false =>
    have hk := effect_keepsPrivileged s hi
    cases he : effect i s with
    | ok u c => exact h.of_privileged (hk.of_ok he)
    | trap c u => exact h.of_privileged (hk.of_trap he)
    | refuse r => trivial
  cases i
  case stc => exact h.stc _ _
  case bri => exact h.bri _
  all_goals exact absurd hi Bool.false_ne_true

end

/-! ## How a step goes on -/

/-- How an instruction of single-instruction mode ends in a next state. -/
theorem exec_single_next {i : Instr} {s t : State} (hm : s.mode = .single) (h : exec i s = .next t) :
    (∃ u c m, effect i s = .ok u c ∧ t = s.complete u m c) ∨
      (∃ u c, effect i s = .trap c u ∧ t = u.enterTrap c s.pc false) := by
  rw [exec_eq_retire, retire, hm] at h
  rcases retireSingle_next h with ⟨m, u, c, _, he, ht⟩ | ⟨u, c, he, _, ht⟩
  · exact .inl ⟨u, c, m, he, ht⟩
  · exact .inr ⟨u, c, he, ht⟩

theorem exec_inModelledPart {i : Instr} {s t : State} (h : InModelledPart s) (hm : s.mode = .single)
    (he : exec i s = .next t) : InModelledPart t := by
  have hi := effect_inModelledPart h i
  rcases exec_single_next hm he with ⟨u, c, m, hu, rfl⟩ | ⟨u, c, hu, rfl⟩
  · exact (hi.of_ok hu).complete s m c
  · exact (hi.of_trap hu).enterTrap _ _ _

theorem runPair_inModelledPart {fi ci : Instr} {s t : State} (h : InModelledPart s)
    (hp : runPair fi ci s = .next t) : InModelledPart t := by
  have hcore (n : Nat) : (effect ci { s with free := n }).All InModelledPart :=
    effect_inModelledPart (s := { s with free := n }) h ci
  rcases retirePair_next (runPair_next hp) with
    ⟨sf, cf, sc, c, m, _, hc, _, _, rfl⟩ | ⟨sf, c, hf, _, rfl⟩ | ⟨sf, cf, sc, c, _, hc, ⟨_, rfl⟩ | ⟨_, rfl⟩⟩
  · exact (((hcore _).of_ok hc).of_privileged (s.overlay_privileged sf sc)).complete s m c
  · exact ((effect_inModelledPart h fi).of_trap hf).enterTrap _ _ _
  · exact (((hcore _).of_trap hc).of_privileged (s.overlay_privileged sf sc.tick)).enterTrap _ _ _
  · exact (((hcore _).of_trap hc).of_privileged sc.tick_privileged).enterTrap _ _ _

/-- Settles O5: of the writers of supervisor state, st.c refuses the values that leave the modelled part, and a trap
return and trap entry do not touch its bits. -/
theorem stepStaysInModelledPart : Obligations.StepStaysInModelledPart := by
  intro s t h hs
  rcases step_next hs with ⟨c, _, rfl⟩ | ⟨i, hm, he⟩ | ⟨fi, ci, _, hp⟩
  · exact h.enterTrap c _ _
  · exact exec_inModelledPart h hm he
  · exact runPair_inModelledPart h hp

/-! ## User mode (R243, R405, R431) -/

/-- In user mode st.c writes no supervisor state (R243). -/
theorem keepsPrivileged_stc_user {s : State} (hu : s.psr.u = true) (src1 : Reg) (c : CReg) :
    (effStc src1 c s).KeepsPrivileged s := by
  cases c
  case fir | fsr => exact rfl
  case psr =>
    show (writePsr _ s).KeepsPrivileged s
    rw [writePsr_user hu]
    exact rfl
  case dirbase =>
    show (writeDirbase _ s).KeepsPrivileged s
    rw [writeDirbase_user hu]
    exact rfl
  case epsr =>
    show (writeEpsr _ s).KeepsPrivileged s
    rw [writeEpsr_user hu]
    exact rfl
  case db =>
    show (writeC .db _ s).KeepsPrivileged s
    rw [writeDb_user hu]
    exact rfl

/-- With no trap bit set, bri is no trap return (R215). -/
theorem keepsPrivileged_bri_no_trap {s : State} (ht : s.psr.anyTrap = false) (src1 : Reg) :
    (effBri src1 s).KeepsPrivileged s := by
  refine Eff.all_demand (Eff.all_demand ?_)
  rw [if_neg (Bool.eq_false_iff.1 ht)]
  exact rfl

/-- No instruction of a user program writes supervisor state. -/
theorem effect_keepsPrivileged_user {s : State} (hu : s.psr.u = true) (ht : s.psr.anyTrap = false) (i : Instr) :
    (effect i s).KeepsPrivileged s := by
  cases hi : mayWritePrivileged i
  case false => exact effect_keepsPrivileged s hi
  cases i
  case stc => exact keepsPrivileged_stc_user hu _ _
  case bri => exact keepsPrivileged_bri_no_trap ht _
  all_goals exact absurd hi Bool.false_ne_true

/-- An instruction that traps has written nothing, in either format. -/
theorem effect_trap_untouched {i : Instr} {s u : State} {c : Cause} (h : effect i s = .trap c u) : Untouched s u := by
  cases hfp : (traits i).fp
  case false =>
    have hc := effect_coreHalf i s hfp
    rw [h] at hc
    exact hc
  case true =>
    have hf := effect_fpHalf i s (dbit_isSome_of_fp hfp)
    rw [h] at hf
    exact hf.2

/-- From the user-mode state `s` the trap handler has been entered, or the user program goes on and has left supervisor
state alone. -/
def TrapsOrStaysUser (s t : State) : Prop :=
  t.db = s.db ∧ t.epsr = { s.epsr with of := t.epsr.of } ∧
    ((t.pc = 0xFFFFFF00#32 ∧ t.psr.u = false ∧ t.psr.pu = true ∧ t.psr.im = false ∧ t.psr.pim = s.psr.im ∧
        t.psr.anyTrap = true ∧ t.dirbase = s.dirbase) ∨
      (t.psr = { s.psr with cc := t.psr.cc, lcc := t.psr.lcc, sc := t.psr.sc, ps := t.psr.ps, pm := t.psr.pm } ∧
        t.dirbase = { s.dirbase with bl := t.dirbase.bl }))

theorem trapsOrStaysUser_of_privileged {s t : State} (h : t.privileged = s.privileged) : TrapsOrStaysUser s t := by
  obtain ⟨hpsr, hepsr, hdirbase, hdb⟩ := State.eq_of_privileged h
  exact ⟨hdb, hepsr, .inr ⟨hpsr, hdirbase⟩⟩

/-- Trap entry sets the bit of its cause (R405). -/
theorem State.enterTrap_anyTrap (s : State) (c : Cause) (fir : Word) (knf : Bool) :
    (s.enterTrap c fir knf).psr.anyTrap = true := by
  cases c <;> simp [State.enterTrap, Psr.anyTrap]

/-- Trap entry from user mode, in a state where at most flags of psr have been written. -/
theorem trapsOrStaysUser_enterTrap {s u : State} (hs : s.psr.u = true) (hu : u.psr.u = s.psr.u)
    (him : u.psr.im = s.psr.im) (hepsr : u.epsr = s.epsr) (hdirbase : u.dirbase = s.dirbase) (hdb : u.db = s.db)
    (c : Cause) (fir : Word) (knf : Bool) : TrapsOrStaysUser s (u.enterTrap c fir knf) :=
  ⟨hdb, by rw [← hepsr]; rfl,
    .inl ⟨rfl, rfl, hu.trans hs, rfl, him, u.enterTrap_anyTrap c fir knf, hdirbase⟩⟩

theorem trapsOrStaysUser_of_untouched {s u : State} (hs : s.psr.u = true) (h : Untouched s u) (c : Cause) (fir : Word)
    (knf : Bool) : TrapsOrStaysUser s (u.enterTrap c fir knf) := by
  obtain ⟨hpsr, hepsr, hdirbase, hdb⟩ := h.control
  exact trapsOrStaysUser_enterTrap hs (congrArg Psr.u hpsr) (congrArg Psr.im hpsr) hepsr hdirbase hdb c fir knf

theorem exec_trapsOrStaysUser {i : Instr} {s t : State} (hs : s.psr.u = true) (ht : s.psr.anyTrap = false)
    (hm : s.mode = .single) (he : exec i s = .next t) : TrapsOrStaysUser s t := by
  rcases exec_single_next hm he with ⟨u, c, m, hu, rfl⟩ | ⟨u, c, hu, rfl⟩
  · have hkept := (effect_keepsPrivileged_user hs ht i).of_ok hu
    exact trapsOrStaysUser_of_privileged ((s.complete_privileged u m c).trans hkept)
  · exact trapsOrStaysUser_of_untouched hs (effect_trap_untouched hu) c _ _

theorem runPair_trapsOrStaysUser {fi ci : Instr} {s t : State} (hs : s.psr.u = true) (ht : s.psr.anyTrap = false)
    (hp : runPair fi ci s = .next t) : TrapsOrStaysUser s t := by
  rcases retirePair_next (runPair_next hp) with
    ⟨sf, cf, sc, c, m, _, hc, _, _, rfl⟩ | ⟨sf, c, hf, _, rfl⟩ | ⟨sf, cf, sc, c, _, hc, hcore⟩
  · have hkept := (effect_keepsPrivileged_user (s := { s with free := sf.free }) hs ht ci).of_ok hc
    exact trapsOrStaysUser_of_privileged ((s.complete_privileged _ m c).trans hkept)
  · exact trapsOrStaysUser_of_untouched hs (effect_trap_untouched hf) c _ _
  · obtain ⟨hpsr, hepsr, hdirbase, hdb⟩ := (effect_trap_untouched hc).control
    have hu : sc.psr.u = s.psr.u := congrArg Psr.u hpsr
    have him : sc.psr.im = s.psr.im := congrArg Psr.im hpsr
    rcases hcore with ⟨_, rfl⟩ | ⟨_, rfl⟩
    · exact trapsOrStaysUser_enterTrap (u := s.overlay sf sc.tick) hs hu him hepsr hdirbase hdb c _ _
    · exact trapsOrStaysUser_enterTrap (u := sc.tick) hs hu him hepsr hdirbase hdb c _ _

/-- Settles O6: an interrupt, a failed fetch and a trap enter the handler with nothing of supervisor state written, and
an instruction or a pair that completes keeps supervisor state. -/
theorem userModeCannotChangeSupervisorState : Obligations.UserModeCannotChangeSupervisorState := by
  intro s t hs ht h
  show TrapsOrStaysUser s t
  rcases step_next h with ⟨c, _, rfl⟩ | ⟨i, hm, he⟩ | ⟨fi, ci, _, hp⟩
  · exact trapsOrStaysUser_enterTrap hs rfl rfl rfl rfl rfl c _ _
  · exact exec_trapsOrStaysUser hs ht hm he
  · exact runPair_trapsOrStaysUser hs ht hp

/-! ## The images of the control registers (R41, R43, R44) -/

/-- psr has its bits below 16 in place, bit 16 apart. -/
theorem Psr.toWord_bits (p : Psr) :
    p.toWord.getLsbD 0 = p.br ∧ p.toWord.getLsbD 1 = p.bw ∧ p.toWord.getLsbD 2 = p.cc ∧ p.toWord.getLsbD 3 = p.lcc ∧
    p.toWord.getLsbD 4 = p.im ∧ p.toWord.getLsbD 5 = p.pim ∧ p.toWord.getLsbD 6 = p.u ∧ p.toWord.getLsbD 7 = p.pu ∧
    p.toWord.getLsbD 8 = p.it ∧ p.toWord.getLsbD 9 = p.inn ∧ p.toWord.getLsbD 10 = p.iat ∧
    p.toWord.getLsbD 11 = p.dat ∧ p.toWord.getLsbD 12 = p.ft ∧ p.toWord.getLsbD 13 = p.ds ∧
    p.toWord.getLsbD 14 = p.dim ∧ p.toWord.getLsbD 15 = p.knf := by
  and_intros
  all_goals
    unfold Psr.toWord
    repeat rw [bit_high _ _ _ (by omega)]
    rw [bit_low _ _ _ (by omega), BitVec.getLsbD_ofBool]
    rfl

/-- SC, PS and PM stand above bit 16 of psr. -/
theorem Psr.toWord_fields (p : Psr) :
    p.toWord.extractLsb' 17 5 = p.sc ∧ p.toWord.extractLsb' 22 2 = p.ps ∧ p.toWord.extractLsb' 24 8 = p.pm := by
  unfold Psr.toWord
  refine ⟨?sc, ?ps, ?pm⟩
  all_goals repeat rw [extract_high _ _ _ _ (by omega)]
  case sc =>
    rw [extract_low _ _ _ _ (by omega)]
    exact extract_all p.sc
  case ps =>
    rw [extract_low _ _ _ _ (by omega)]
    exact extract_all p.ps
  case pm => exact extract_all p.pm

theorem Dirbase.toWord_bits (d : Dirbase) :
    d.toWord.getLsbD 0 = d.ate ∧ d.toWord.getLsbD 4 = d.bl ∧ d.toWord.getLsbD 5 = d.iti ∧
    d.toWord.getLsbD 6 = d.rsvd ∧ d.toWord.getLsbD 7 = d.cs8 := by
  and_intros
  all_goals
    unfold Dirbase.toWord
    repeat rw [bit_high _ _ _ (by omega)]
    rw [bit_low _ _ _ (by omega), BitVec.getLsbD_ofBool]
    rfl

theorem Dirbase.toWord_fields (d : Dirbase) :
    d.toWord.extractLsb' 1 3 = d.dps ∧ d.toWord.extractLsb' 8 2 = d.rb ∧ d.toWord.extractLsb' 10 2 = d.rc ∧
    d.toWord.extractLsb' 12 20 = d.dtb := by
  unfold Dirbase.toWord
  refine ⟨?dps, ?rb, ?rc, ?dtb⟩
  all_goals repeat rw [extract_high _ _ _ _ (by omega)]
  case dps =>
    rw [extract_low _ _ _ _ (by omega)]
    exact extract_all d.dps
  case rb =>
    rw [extract_low _ _ _ _ (by omega)]
    exact extract_all d.rb
  case rc =>
    rw [extract_low _ _ _ _ (by omega)]
    exact extract_all d.rc
  case dtb => exact extract_all d.dtb

/-- The bits of epsr that rules write. -/
theorem Epsr.toWord_bits (e : Epsr) :
    e.toWord.getLsbD 13 = e.il ∧ e.toWord.getLsbD 14 = e.wp ∧ e.toWord.getLsbD 22 = e.pbm ∧
    e.toWord.getLsbD 23 = e.be ∧ e.toWord.getLsbD 24 = e.of := by
  and_intros
  all_goals
    unfold Epsr.toWord
    repeat rw [bit_high _ _ _ (by omega)]
    rw [bit_low _ _ _ (by omega), BitVec.getLsbD_ofBool]
    rfl

/-- Values that agree in a field agree in its bits. -/
theorem getLsbD_eq_of_extractLsb'_eq {w n len k : Nat} {x y : BitVec w}
    (h : x.extractLsb' n len = y.extractLsb' n len) (hn : n ≤ k) (hk : k < n + len) : x.getLsbD k = y.getLsbD k := by
  obtain ⟨i, rfl⟩ := Nat.exists_eq_add_of_le hn
  have hi : i < len := by omega
  have hb := congrArg (fun z => z.getLsbD i) h
  simpa [BitVec.getLsbD_extractLsb', hi] using hb

/-- st.c to psr in supervisor mode writes the image, but for bit 16 (R243). -/
theorem Psr.writeSupervisor_bit (p : Psr) (v : Word) {k : Nat} (hk : k < 32) (h16 : k ≠ 16) :
    (p.writeSupervisor v).toWord.getLsbD k = v.getLsbD k := by
  obtain ⟨h0, h1, h2, h3, h4, h5, h6, h7, h8, h9, h10, h11, h12, h13, h14, h15⟩ := (p.writeSupervisor v).toWord_bits
  obtain ⟨hsc, hps, hpm⟩ := (p.writeSupervisor v).toWord_fields
  rcases Nat.lt_or_ge k 16 with hlow | hhigh
  · match k, hlow with
    | 0, _ => exact h0
    | 1, _ => exact h1
    | 2, _ => exact h2
    | 3, _ => exact h3
    | 4, _ => exact h4
    | 5, _ => exact h5
    | 6, _ => exact h6
    | 7, _ => exact h7
    | 8, _ => exact h8
    | 9, _ => exact h9
    | 10, _ => exact h10
    | 11, _ => exact h11
    | 12, _ => exact h12
    | 13, _ => exact h13
    | 14, _ => exact h14
    | 15, _ => exact h15
    | n + 16, hn => omega
  · have hfield : (17 ≤ k ∧ k < 17 + 5) ∨ (22 ≤ k ∧ k < 22 + 2) ∨ (24 ≤ k ∧ k < 24 + 8) := by omega
    rcases hfield with ⟨hn, hk⟩ | ⟨hn, hk⟩ | ⟨hn, hk⟩
    · exact getLsbD_eq_of_extractLsb'_eq hsc hn hk
    · exact getLsbD_eq_of_extractLsb'_eq hps hn hk
    · exact getLsbD_eq_of_extractLsb'_eq hpm hn hk

/-- dirbase holds the whole of its image (R44). -/
theorem Dirbase.toWord_ofWord (v : Word) : (Dirbase.ofWord v).toWord = v := by
  obtain ⟨h0, h4, h5, h6, h7⟩ := (Dirbase.ofWord v).toWord_bits
  obtain ⟨hdps, hrb, hrc, hdtb⟩ := (Dirbase.ofWord v).toWord_fields
  refine BitVec.eq_of_getLsbD_eq fun k hk => ?_
  have hpart : k = 0 ∨ (1 ≤ k ∧ k < 1 + 3) ∨ k = 4 ∨ k = 5 ∨ k = 6 ∨ k = 7 ∨ (8 ≤ k ∧ k < 8 + 2) ∨
      (10 ≤ k ∧ k < 10 + 2) ∨ (12 ≤ k ∧ k < 12 + 20) := by omega
  rcases hpart with rfl | ⟨hn, hk⟩ | rfl | rfl | rfl | rfl | ⟨hn, hk⟩ | ⟨hn, hk⟩ | ⟨hn, hk⟩
  · exact h0
  · exact getLsbD_eq_of_extractLsb'_eq hdps hn hk
  · exact h4
  · exact h5
  · exact h6
  · exact h7
  · exact getLsbD_eq_of_extractLsb'_eq hrb hn hk
  · exact getLsbD_eq_of_extractLsb'_eq hrc hn hk
  · exact getLsbD_eq_of_extractLsb'_eq hdtb hn hk

/-- A bit that reads as stored (U9). -/
theorem State.readKept_bit (s : State) {mask : Word} (v : Word) {k : Nat} (h : mask.getLsbD k = true) :
    (s.readKept mask v).getLsbD k = v.getLsbD k := by
  simp [State.readKept, BitVec.getLsbD_and, BitVec.getLsbD_or, BitVec.getLsbD_not, h]

/-! ## ld.c and st.c (R241, R243, R421) -/

/-- In single-instruction mode an instruction reads its own address as pc (R421). -/
theorem State.readC_fir {s : State} (hm : s.mode = .single) : s.readC .fir = s.firLatched.getD s.pc := by
  rw [State.readC, State.instAddr, hm]

/-- FZ, TI, RM and FTE read as stored (R408). -/
theorem State.readC_fsr_fields (s : State) :
    (s.readC .fsr).getLsbD 0 = s.fsr.getLsbD 0 ∧ (s.readC .fsr).getLsbD 1 = s.fsr.getLsbD 1 ∧
    (s.readC .fsr).extractLsb' 2 2 = s.fsr.extractLsb' 2 2 ∧ (s.readC .fsr).getLsbD 5 = s.fsr.getLsbD 5 := by
  refine ⟨s.readKept_bit _ rfl, s.readKept_bit _ rfl, BitVec.eq_of_getLsbD_eq fun i hi => ?rm, s.readKept_bit _ rfl⟩
  case rm =>
    have hmask : fsrKept.getLsbD (2 + i) = true := by
      have hbit : i = 0 ∨ i = 1 := by omega
      rcases hbit with rfl | rfl
      · rfl
      · rfl
    rw [BitVec.getLsbD_extractLsb', BitVec.getLsbD_extractLsb', State.readC, s.readKept_bit _ hmask]

section
variable {s : State} (hs : CoreReady s)
include hs

theorem gives_ldc (c : CReg) (dest : Reg) : Gives (.ldc c dest) false s ((s.afterReadC c).setR dest (s.readC c)) :=
  gives_core hs rfl rfl rfl

/-- st.c by the meaning of its write. -/
theorem gives_stc {src1 : Reg} {c : CReg} {t : State} (h : writeC c (s.R src1) s = .ok t .seq) :
    Gives (.stc src1 c) false s t := gives_core hs rfl rfl h

/-- st.c of a value that may be refused. -/
theorem stc_demand (src1 : Reg) (c : CReg) {b : Bool} {r : Refusal} {t : State}
    (h : writeC c (s.R src1) s = demand (!b) r (.ok t .seq)) :
    (b = true → exec (.stc src1 c) s = .refused r) ∧ (¬b = true → Gives (.stc src1 c) false s t) := by
  refine ⟨fun hb => ?refused, fun hb => ?gives⟩
  case refused =>
    rw [hb] at h
    exact exec_of_refuse hs (fun _ => nofun) nofun h
  case gives =>
    rw [Bool.eq_false_iff.2 hb] at h
    exact gives_stc hs h

end

/-- Settles O41: the value is the image of the register, its fields in place, and for fsr and epsr its kept bits. -/
theorem loadControlReadsTheRegisters : Obligations.LoadControlReadsTheRegisters := by
  intro dest s hs
  have h (c : CReg) := gives_ldc hs c dest
  refine ⟨?fir, h .db, ⟨_, h .psr, ?psr⟩, ⟨_, h .dirbase, ?dirbase⟩, ⟨_, h .fsr, s.readC_fsr_fields⟩,
    ⟨_, h .epsr, ?epsr⟩⟩
  case fir =>
    have hfir := h .fir
    rw [State.readC_fir hs] at hfir
    split
    · rename_i a ha
      rw [ha] at hfir
      exact hfir
    · rename_i hn
      rw [hn] at hfir
      exact hfir
  case psr =>
    obtain ⟨h0, h1, h2, h3, h4, h5, h6, h7, h8, h9, h10, h11, h12, h13, h14, h15⟩ := s.psr.toWord_bits
    exact ⟨h0, h1, h2, h3, h4, h5, h6, h7, h8, h9, h10, h11, h12, h13, h14, h15, s.psr.toWord_fields⟩
  case dirbase =>
    obtain ⟨hate, hbl, hiti, _, hcs8⟩ := s.dirbase.toWord_bits
    obtain ⟨hdps, hrb, hrc, hdtb⟩ := s.dirbase.toWord_fields
    exact ⟨hate, hdps, hbl, hiti, hcs8, hrb, hrc, hdtb⟩
  case epsr =>
    obtain ⟨hil, hwp, hpbm, hbe, hof⟩ := s.epsr.toWord_bits
    exact ⟨(s.readKept_bit _ rfl).trans hil, (s.readKept_bit _ rfl).trans hwp, (s.readKept_bit _ rfl).trans hpbm,
      (s.readKept_bit _ rfl).trans hbe, (s.readKept_bit _ rfl).trans hof⟩

theorem extractLsb'_eq_ofNat_div {w : Nat} (v : BitVec w) (n len : Nat) :
    v.extractLsb' n len = BitVec.ofNat len (v.toNat / 2 ^ n) := by
  rw [BitVec.extractLsb', Nat.shiftRight_eq_div_pow]

/-- The user fields of psr, as numbers. -/
theorem Psr.writeUser_eq (p : Psr) (v : Word) : p.writeUser v = { p with
    cc := v.getLsbD 2
    lcc := v.getLsbD 3
    sc := BitVec.ofNat 5 (v.toNat / 2 ^ 17)
    ps := BitVec.ofNat 2 (v.toNat / 2 ^ 22)
    pm := BitVec.ofNat 8 (v.toNat / 2 ^ 24) } := by
  simp only [Psr.writeUser, extractLsb'_eq_ofNat_div]

/-- Settles O42: each register's write in each mode, and the values that supervisor mode refuses. -/
theorem storeControlWritesByMode : Obligations.StoreControlWritesByMode := by
  intro src1 s hs v sets
  refine ⟨gives_stc hs rfl, gives_stc hs rfl,
    fun hu => ⟨gives_stc hs (writeDb_supervisor hu), ?psr, ?dirbase, ?epsr⟩,
    fun hu => ⟨gives_stc hs (writeDirbase_user hu), gives_stc hs (writeDb_user hu), gives_stc hs (writeEpsr_user hu),
      ?user⟩⟩
  case psr =>
    obtain ⟨hrefused, hgives⟩ := stc_demand hs src1 .psr (writePsr_supervisor hu)
    split
    · exact hrefused ‹_›
    · exact ⟨_, hgives ‹_›, rfl, fun k hk h16 => s.psr.writeSupervisor_bit v hk h16⟩
  case dirbase =>
    obtain ⟨hrefused, hgives⟩ := stc_demand hs src1 .dirbase (writeDirbase_supervisor hu)
    split
    · exact hrefused ‹_›
    · exact ⟨_, hgives ‹_›, Dirbase.toWord_ofWord v⟩
  case epsr =>
    obtain ⟨hrefused, hgives⟩ := stc_demand hs src1 .epsr (writeEpsr_supervisor hu)
    split
    · exact hrefused ‹_›
    · exact hgives ‹_›
  case user =>
    dsimp only
    rw [← Psr.writeUser_eq]
    exact gives_stc hs (writePsr_user hu)

/-! ## trap, intovr, lock and unlock (R244 to R248) -/

/-- A transfer, trap or intovr that traps outside a locked sequence. -/
theorem traps_of_transferReady {i : Instr} {s : State} (hs : TransferReady s) (hd : dbit i = none) {c : Cause}
    (he : effect i s = .trap c s) (hbl : s.dirbase.bl = false) : exec i s = .next (s.enterTrap c s.pc false) := by
  rw [exec_of_trap hs.mode (by simp [hd]) (fun _ => hs.armed) he]
  exact s.takeTrap_of c s.pc false hbl

/-- Outside a delay slot intovr asks OF alone (R248). -/
theorem effect_intovr {s : State} (hs : TransferReady s) :
    effect .intovr s = if s.epsr.of then .trap .it s else .ok s .seq := notInSlot_of_transferReady hs _

/-- Settles O43: trap always traps, intovr by OF. -/
theorem trapAndIntovrRaiseTheInstructionFault : Obligations.TrapAndIntovrRaiseTheInstructionFault := by
  intro src1 src2 dest s hs
  refine ⟨fun hbl => ?trap, fun hbl hof => ?overflow, fun hof => ?none⟩
  case trap => exact traps_of_transferReady hs rfl (notInSlot_of_transferReady hs _) hbl
  case overflow => exact traps_of_transferReady hs rfl ((effect_intovr hs).trans (if_pos hof)) hbl
  case none =>
    have he := (effect_intovr hs).trans (if_neg (Bool.eq_false_iff.1 hof))
    exact transfers_of hs rfl he hs.mode hs.armed hs.delay (.inl ⟨rfl, rfl, rfl⟩)

/-- A locked sequence holds interrupts off (R245). -/
theorem State.interrupted_of_bl {s : State} (h : s.dirbase.bl = true) : s.interrupted = false := by
  simp [State.interrupted, h]

/-- So does the bus while it is still locked (R246). -/
theorem State.interrupted_of_busLock {s : State} (h : s.busLock = true) : s.interrupted = false := by
  simp [State.interrupted, h]

/-- What an instruction gives is its only next state. -/
theorem Gives.next_eq {i : Instr} {d : Bool} {s t u : State} (h : Gives i d s t) (hu : exec i s = .next u) :
    u = s.movedOn d t .seq := by
  rw [Gives, hu] at h
  cases h
  rfl

/-- Settles O44: after lock BL is set, and unlock leaves a bus lock in force. -/
theorem lockAndUnlockHoldInterruptsOff : Obligations.LockAndUnlockHoldInterruptsOff := by
  intro s hs
  have hlock : Gives .lock false s { s with dirbase := { s.dirbase with bl := true }, busLock := true } :=
    gives_core hs rfl rfl rfl
  have hunlock : Gives .unlock false s { s with dirbase := { s.dirbase with bl := false } } :=
    gives_core hs rfl rfl rfl
  refine ⟨hlock, hunlock, fun t ht => ?lock, fun hb t ht => ?unlock⟩
  case lock =>
    rw [hlock.next_eq ht]
    exact State.interrupted_of_bl (congrArg Dirbase.bl (State.complete_dirbase ..))
  case unlock =>
    rw [hunlock.next_eq ht]
    exact State.interrupted_of_busLock ((State.complete_busLock ..).trans hb)

end Sys2Proof.Machine
end

section
/-!
PROOFS. Scalar floating point: a form that fits its registers, with nothing to report and no source exception, writes
its result and leaves the pipeline of its unit undefined (O45, O46, O48, O49).
-/
namespace Sys2Proof.Machine

/-! ## The write of a result (R263) -/

/-- Register numbers that fit their operands one by one fit together (R33). -/
theorem fits2_of {sp rp : Prec} {src1 src2 dest : Reg} (h1 : sp.fits src1 = true) (h2 : sp.fits src2 = true)
    (h3 : rp.fits dest = true) : fits2 sp src1 src2 rp dest = true := by rw [fits2, h1, h2, h3]; rfl

theorem fits1_of {sp rp : Prec} {src dest : Reg} (h1 : sp.fits src = true) (h2 : rp.fits dest = true) :
    fits1 sp src rp dest = true := by rw [fits1, h1, h2]; rfl

/-- The note of a result exception does not see the register write (R407). -/
theorem State.noteResult_fwrite (t : State) (dest : Reg) (rp : Prec) (v : DWord) (o : FpOut) :
    (t.fwrite dest rp v).noteResult o = { t with fpPending := t.pends o }.fwrite dest rp v := by
  rw [State.noteResult_eq, State.pends_congr o (t.fwrite_fsr dest rp v) (t.fwrite_fpPending dest rp v),
    State.fwrite_fpPending_comm]

/-- famov notes nothing (R272). -/
theorem State.pends_noResult (s : State) (o : FpOut) : s.pends o.noResult = s.fpPending := by
  simp [State.pends, FpOut.noResult]

section
variable {i : Instr} {s : State} {d : Bool} {sp rp : Prec} {src src1 src2 dest : Reg}
variable (hs : FpReady s d) (hd : dbit i = some d) (hc : isControl i = false)
include hs hd hc

/-- A floating-point form whose registers fit, with nothing to report, does what stands behind its two checks. -/
theorem gives_reportResult {b : Bool} {r : Refusal} {k : Eff} {t : State} (hb : b = true)
    (he : effect i s = demand b r (reportResult s k)) (hk : k = .ok t .seq) : Gives i d s t := by
  refine gives_fp hs hd hc (he.trans ?_)
  rw [demand_of b r _ hb, reportResult_none s k hs.2.2, hk]

/-- With no source exception the result is written and its own exceptions are noted (R263). -/
theorem gives_scalarResult {b : Bool} {r : Refusal} {t : State} {v : DWord} {o : FpOut} (hb : b = true)
    (he : effect i s = demand b r (reportResult s (checkSource o.se s (.ok ((t.fwrite dest rp v).noteResult o) .seq))))
    (ho : NoSourceTrap s o) : Gives i d s ({ t with fpPending := t.pends o }.fwrite dest rp v) := by
  refine gives_reportResult hs hd hc hb he ?_
  rw [checkSource_none _ _ _ ho, State.noteResult_fwrite]

section
variable {f : Prec → Prec → FpEnv → DWord → DWord → FpOut}

theorem gives_scalarAdder (hfit : fits2 sp src1 src2 rp dest = true)
    (he : effect i s = scalar2 scalarAdder f sp rp src1 src2 dest s) :
    let o := f sp rp s.fpEnv (s.fread src1 sp) (s.fread src2 sp)
    NoSourceTrap s o →
      Gives i d s ({ s with aPipe := Pipe3.clear, fpPending := s.pends o }.fwrite dest rp o.value) :=
  fun ho => gives_scalarResult (t := { s with aPipe := Pipe3.clear }) hs hd hc hfit he ho

theorem gives_scalarMultiplier (hfit : fits2 sp src1 src2 rp dest = true)
    (he : effect i s = scalar2 scalarMultiplier f sp rp src1 src2 dest s) :
    let o := f sp rp s.fpEnv (s.fread src1 sp) (s.fread src2 sp)
    NoSourceTrap s o →
      Gives i d s ({ s with mPipe := s.mPipe.clear, fpPending := s.pends o }.fwrite dest rp o.value) :=
  fun ho => gives_scalarResult (t := { s with mPipe := s.mPipe.clear }) hs hd hc hfit he ho

theorem gives_scalarSeed (hfit : fits1 sp src rp dest = true) (he : effect i s = scalarSeed f sp rp src dest s) :
    let o := f sp rp s.fpEnv (s.fread src sp) s.drawn
    NoSourceTrap s o →
      Gives i d s ({ s.tick with mPipe := s.mPipe.clear, fpPending := s.pends o }.fwrite dest rp o.value) :=
  fun ho => gives_scalarResult (t := { s.tick with mPipe := s.mPipe.clear }) hs hd hc hfit he ho

end

/-- A move through the adder notes no exception of its result (R272). -/
theorem gives_scalarMove (hfit : fits1 sp src rp dest = true) (he : effect i s = scalarMove sp rp src dest s) :
    let o := fpCvt sp rp s.fpEnv (s.fread src sp)
    NoSourceTrap s o → Gives i d s ({ s with aPipe := Pipe3.clear }.fwrite dest rp o.value) := by
  intro o ho
  have h := gives_scalarResult (t := { s with aPipe := Pipe3.clear }) (o := o.noResult) hs hd hc hfit he ho
  rwa [State.pends_noResult] at h

section
variable {f : Prec → FpEnv → DWord → FpOut}

theorem gives_scalarToInt_single (he : effect i s = scalarToInt f sp .s src dest s) (hfit : sp.fits src = true) :
    let o := f sp s.fpEnv (s.fread src sp)
    NoSourceTrap s o → Gives i d s
      ({ s with aPipe := Pipe3.clear, fpPending := s.pends o }.setFS dest (o.value.extractLsb' 0 32)) := by
  intro o ho
  rw [← BitVec.setWidth_eq_extractLsb' (by omega)]
  exact gives_scalarResult (t := { s with aPipe := Pipe3.clear }) (rp := .s) hs hd hc (fits1_of hfit rfl) he ho

/-- The upper half of a double result is the free value that the conversion draws (D27). -/
theorem gives_scalarToInt_double (he : effect i s = scalarToInt f sp .d src dest s) (hfit : sp.fits src = true)
    (hdest : Prec.d.fits dest = true) :
    let o := f sp s.fpEnv (s.fread src sp)
    NoSourceTrap s o → Gives i d s
      (({ s.tick with aPipe := Pipe3.clear, fpPending := s.pends o }.setFS dest (o.value.extractLsb' 0 32)).setFS
        (dest + 1) (s.drawn.extractLsb' 0 32)) := by
  intro o ho
  have h := gives_scalarResult (t := { s.tick with aPipe := Pipe3.clear }) (rp := .d) hs hd hc (fits1_of hfit hdest) he
    ho
  have hlo : (intResult .d o.value s.drawn).extractLsb' 0 32 = o.value.extractLsb' 0 32 := by
    rw [intResult, BitVec.extractLsb'_append_eq_of_add_le (by omega), BitVec.extractLsb'_setWidth_of_le (by omega)]
  have hhi : (intResult .d o.value s.drawn).extractLsb' 32 32 = s.drawn.extractLsb' 0 32 := by
    rw [intResult, BitVec.extractLsb'_append_eq_of_le (by omega), BitVec.extractLsb'_eq_self]
  rwa [State.fwrite, State.setFD, hlo, hhi] at h

end

end

/-! ## Adder, multiplier and moves (R264, R265, R267, R270 to R273) -/

/-- Settles O45: each form is its unit's operation on its configuration function. -/
theorem scalarArithmeticWritesTheResult : Obligations.ScalarArithmeticWritesTheResult := by
  intro src1 src2 dest d s hs clear adder multiplier
  have hclear : s.mPipe.clear = clear := rfl
  have add {i f sp rp} (hd : dbit i = some d) (hc : isControl i = false)
      (he : effect i s = scalar2 scalarAdder f sp rp src1 src2 dest s) (hfit : fits2 sp src1 src2 rp dest = true) :
      adder i f sp rp := gives_scalarAdder hs hd hc hfit he
  have mul {i sp rp} (hd : dbit i = some d) (hc : isControl i = false)
      (he : effect i s = scalar2 scalarMultiplier fpMul sp rp src1 src2 dest s)
      (hfit : fits2 sp src1 src2 rp dest = true) : multiplier i sp rp := by
    have h := gives_scalarMultiplier hs hd hc hfit he
    rwa [hclear] at h
  refine ⟨add rfl rfl rfl rfl, add rfl rfl rfl rfl, mul rfl rfl rfl rfl, fun hdest => ?sd,
    fun h1 h2 hdest => ?dd⟩
  case sd =>
    have hfit : fits2 .s src1 src2 .d dest = true := fits2_of rfl rfl (Prec.fits_d hdest)
    exact ⟨add rfl rfl rfl hfit, add rfl rfl rfl hfit, mul rfl rfl rfl hfit⟩
  case dd =>
    have hfit : fits2 .d src1 src2 .d dest = true := fits2_of (Prec.fits_d h1) (Prec.fits_d h2) (Prec.fits_d hdest)
    exact ⟨add rfl rfl rfl hfit, add rfl rfl rfl hfit, mul rfl rfl rfl hfit⟩

/-- Settles O48: the low half of the result is the function's, the high half the value drawn. -/
theorem conversionsToIntegerWriteTheLowHalf : Obligations.ConversionsToIntegerWriteTheLowHalf := by
  intro src1 dest d s hs single double
  have hdouble {i f sp} (hdest : dest.toNat % 2 = 0) (hd : dbit i = some d) (hc : isControl i = false)
      (he : effect i s = scalarToInt f sp .d src1 dest s) (hfit : sp.fits src1 = true) : double i f sp :=
    fun ho => ⟨_, gives_scalarToInt_double hs hd hc he hfit (Prec.fits_d hdest) ho⟩
  exact ⟨gives_scalarToInt_single hs rfl rfl rfl rfl, gives_scalarToInt_single hs rfl rfl rfl rfl,
    fun hdest => ⟨hdouble hdest rfl rfl rfl rfl, hdouble hdest rfl rfl rfl rfl, fun hsrc =>
      ⟨hdouble hdest rfl rfl rfl (Prec.fits_d hsrc), hdouble hdest rfl rfl rfl (Prec.fits_d hsrc)⟩⟩⟩

/-- Settles O49: fmov between precisions is famov (R273). -/
theorem adderMovesWriteTheConvertedValue : Obligations.AdderMovesWriteTheConvertedValue := by
  intro src1 dest d s hs move
  have hmove {i sp rp} (hd : dbit i = some d) (hc : isControl i = false)
      (he : effect i s = scalarMove sp rp src1 dest s) (hsrc : sp.fits src1 = true) (hdest : rp.fits dest = true) :
      move i sp rp := gives_scalarMove hs hd hc (fits1_of hsrc hdest) he
  refine ⟨hmove rfl rfl rfl rfl rfl, fun hdest => ?sd, fun hsrc => ?ds, fun hsrc hdest => ?dd⟩
  case sd => exact ⟨hmove rfl rfl rfl rfl (Prec.fits_d hdest), hmove rfl rfl rfl rfl (Prec.fits_d hdest)⟩
  case ds => exact ⟨hmove rfl rfl rfl (Prec.fits_d hsrc) rfl, hmove rfl rfl rfl (Prec.fits_d hsrc) rfl⟩
  case dd => exact hmove rfl rfl rfl (Prec.fits_d hsrc) (Prec.fits_d hdest)

/-! ## The low product (R266) -/

/-- Bits 52..0 of the result are those of the product. -/
theorem mulLow_toNat_mod (a b free : DWord) :
    (mulLow a b free).toNat % 2 ^ 53 = (a.toNat % 2 ^ 53) * (b.toNat % 2 ^ 53) % 2 ^ 53 := by
  rw [mulLow, ← BitVec.toNat_setWidth, BitVec.setWidth_append_eq_right, BitVec.toNat_ofNat, BitVec.toNat_setWidth,
    BitVec.toNat_setWidth]

/-- Bit 53 is the top bit of the 106-bit product. -/
theorem mulLow_bit53 (a b free : DWord) :
    (mulLow a b free).getLsbD 53 = ((a.toNat % 2 ^ 53) * (b.toNat % 2 ^ 53)).testBit 105 := by
  rw [mulLow, BitVec.getLsbD_append, if_neg (by omega), BitVec.getLsbD_append, if_pos (by omega),
    BitVec.toNat_setWidth, BitVec.toNat_setWidth]
  exact BitVec.getLsbD_ofBool _ 0

/-- Settles O46: the product fills the low 54 bits whatever the free value is. -/
theorem multiplyLowKeepsTheLowProduct : Obligations.MultiplyLowKeepsTheLowProduct := by
  intro src1 src2 dest d s hs h1 h2 hdest product
  have hfit : fits2 .d src1 src2 .d dest = true := fits2_of (Prec.fits_d h1) (Prec.fits_d h2) (Prec.fits_d hdest)
  exact ⟨_, gives_reportResult hs rfl rfl hfit rfl rfl, mulLow_toNat_mod .., mulLow_bit53 ..⟩

end Sys2Proof.Machine
end

section
/-!
PROOFS. frcp and frsqr: the set within the bound of R268 and R269 as rational numbers, the member the model falls back
to, and that every normal operand gets a member (O47).
-/
namespace Sys2Proof.Machine

/-! ## Magnitudes as rational numbers -/

/-- A power of two with any exponent. -/
def twoPow (x : Int) : Rat := 2 ^ x

theorem twoPow_pos (x : Int) : 0 < twoPow x := Rat.zpow_pos (by decide)

theorem twoPow_add (x y : Int) : twoPow (x + y) = twoPow x * twoPow y := Rat.zpow_add (by decide) x y

theorem twoPow_natCast (n : Nat) : twoPow n = ((2 ^ n : Nat) : Rat) :=
  (Rat.zpow_natCast 2 n).trans (Rat.natCast_pow 2 n).symm

theorem twoPow_zero : twoPow 0 = 1 := Rat.zpow_zero 2

theorem twoPow_succ (x : Int) : twoPow (x + 1) = 2 * twoPow x := by
  have hone : twoPow 1 = 2 := Rat.zpow_one 2
  rw [twoPow_add, hone, Rat.mul_comm]

theorem twoPow_le_twoPow {x y : Int} (h : x ≤ y) : twoPow x ≤ twoPow y := by
  obtain ⟨n, rfl⟩ := Int.le.dest h
  have hone : ((1 : Nat) : Rat) ≤ ((2 ^ n : Nat) : Rat) := Rat.natCast_le_natCast.2 Nat.one_le_two_pow
  have hmul := Rat.mul_le_mul_of_nonneg_left hone (Rat.le_of_lt (twoPow_pos x))
  rw [twoPow_add, twoPow_natCast]
  grind

/-- The magnitude `m * 2^e`. -/
def dyadic (m : Nat) (e : Int) : Rat := m * twoPow e

theorem dyadic_pos {m : Nat} (h : 0 < m) (e : Int) : 0 < dyadic m e :=
  Rat.mul_pos (Rat.natCast_pos.2 h) (twoPow_pos e)

theorem dyadic_mul (a b : Nat) (x y : Int) : dyadic (a * b) (x + y) = dyadic a x * dyadic b y := by
  rw [dyadic, dyadic, dyadic, Rat.natCast_mul, twoPow_add]
  grind

theorem dyadic_one (e : Int) : dyadic 1 e = twoPow e := Rat.one_mul _

theorem dyadic_one_zero : dyadic 1 0 = 1 := (dyadic_one 0).trans twoPow_zero

theorem dyadic_add (a b : Nat) (e : Int) : dyadic (a + b) e = dyadic a e + dyadic b e := by
  rw [dyadic, Rat.natCast_add, Rat.add_mul]
  rfl

theorem dyadic_le_dyadic {a b : Nat} {e : Int} : dyadic a e ≤ dyadic b e ↔ a ≤ b := by
  rw [← Rat.not_lt, dyadic, dyadic, Rat.mul_lt_mul_right (twoPow_pos e), Rat.not_lt, Rat.natCast_le_natCast]

/-- The next seed is one unit in the last place further. -/
theorem dyadic_succ (k : Nat) (e : Int) : dyadic (k + 1) e = dyadic k e + twoPow e := by
  rw [dyadic_add, dyadic_one]

/-- Bits moved from the exponent to the significand. -/
theorem dyadic_shift (m n : Nat) (e : Int) : dyadic (m * 2 ^ n) e = dyadic m (e + n) := by
  rw [dyadic, dyadic, Rat.natCast_mul, twoPow_add, twoPow_natCast]
  grind

theorem dyadic_two_pow (n : Nat) (e : Int) : dyadic (2 ^ n) e = twoPow (e + n) := by
  rw [← Nat.one_mul (2 ^ n), dyadic_shift, dyadic_one]

/-- `scaled` is the magnitude over the common factor, where the factor clears the exponent. -/
theorem scaled_cast {n : Nat} {x : Int} {k : Nat} (h : 0 ≤ x + k) :
    ((scaled n x k : Int) : Rat) = dyadic n x * twoPow k := by
  calc ((scaled n x k : Int) : Rat) = dyadic (n * 2 ^ (x + k).toNat) 0 := by
        rw [scaled, Rat.intCast_natCast, dyadic, twoPow_zero, Rat.mul_one]
    _ = dyadic n (x + k) := by rw [dyadic_shift, Int.toNat_of_nonneg h, Int.zero_add]
    _ = dyadic n x * twoPow k := by rw [dyadic, dyadic, twoPow_add, Rat.mul_assoc]

theorem scaled_lt_scaled {a b : Nat} {x y : Int} {k : Nat} (hx : 0 ≤ x + k) (hy : 0 ≤ y + k) :
    scaled a x k < scaled b y k ↔ dyadic a x < dyadic b y := by
  rw [← Rat.intCast_lt_intCast, scaled_cast hx, scaled_cast hy, Rat.mul_lt_mul_right (twoPow_pos k)]

theorem scaled_le_one (n : Nat) (x : Int) :
    scaled n x x.natAbs ≤ scaled 1 0 x.natAbs ↔ dyadic n x ≤ 1 := by
  rw [← Int.not_lt, scaled_lt_scaled (by omega) (by omega), dyadic_one_zero, Rat.not_lt]

/-! ## The bounds (R268, R269) -/

/-- The bound of R268, `|v - 1/b| < 2^(x-7)`, multiplied by the operand `b`. -/
theorem rcpClose_iff (mv : Nat) (ev : Int) (mb : Nat) (eb : Int) :
    rcpClose mv ev mb eb = true ↔
      1 < dyadic mv ev * dyadic mb eb + twoPow (recipExp mb eb - 7) * dyadic mb eb ∧
        dyadic mv ev * dyadic mb eb < 1 + twoPow (recipExp mb eb - 7) * dyadic mb eb := by
  unfold rcpClose
  dsimp only
  generalize recipExp mb eb - 7 = y
  generalize hk : (ev + eb).natAbs + (y + eb).natAbs = k
  have hbound : dyadic mb (y + eb) = twoPow y * dyadic mb eb := by
    rw [← Nat.one_mul mb, dyadic_mul, dyadic_one, Nat.one_mul]
  have hnonneg : 0 ≤ scaled mb (y + eb) k := Int.natCast_nonneg _
  have habs {a b c : Int} (hc : 0 ≤ c) : (a - b).natAbs < c.natAbs ↔ b < a + c ∧ a < b + c := by omega
  rw [decide_eq_true_iff, habs hnonneg, ← Rat.intCast_lt_intCast, ← Rat.intCast_lt_intCast,
    Rat.intCast_add, Rat.intCast_add, scaled_cast (by omega), scaled_cast (by omega), scaled_cast (by omega),
    dyadic_one_zero, dyadic_mul, hbound]
  generalize dyadic mv ev * dyadic mb eb = v
  generalize twoPow y * dyadic mb eb = g
  rw [← Rat.add_mul, ← Rat.add_mul, Rat.mul_lt_mul_right (twoPow_pos k), Rat.mul_lt_mul_right (twoPow_pos k)]

/-- The bound of R269, `|v - 1/√b| < 2^(x-7)`, with the root squared away and multiplied by the operand `b`. -/
theorem rsqrClose_iff (mv : Nat) (ev : Int) (mb : Nat) (eb : Int) :
    let v := dyadic mv ev
    let g := twoPow (recipExp mb eb / 2 - 7)
    rsqrClose mv ev mb eb = true ↔
      g ≤ v ∧ (v - g) * (v - g) * dyadic mb eb < 1 ∧ 1 < (v + g) * (v + g) * dyadic mb eb := by
  unfold rsqrClose
  dsimp only
  generalize recipExp mb eb / 2 - 7 = y
  generalize hw : min ev y = w
  have hev : w + ((ev - w).toNat : Int) = ev := by omega
  have hy : w + ((y - w).toNat : Int) = y := by omega
  have hv : dyadic mv ev = dyadic (mv * 2 ^ (ev - w).toNat) w := by rw [dyadic_shift, hev]
  have hg : twoPow y = dyadic (2 ^ (y - w).toNat) w := by rw [dyadic_two_pow, hy]
  rw [hv, hg]
  generalize mv * 2 ^ (ev - w).toNat = v
  generalize 2 ^ (y - w).toNat = g
  have hsquare (n : Nat) : dyadic (n * n * mb) (2 * w + eb) = dyadic n w * dyadic n w * dyadic mb eb := by
    rw [Int.two_mul, dyadic_mul, dyadic_mul]
  rw [Bool.and_eq_true, Bool.and_eq_true, decide_eq_true_iff, decide_eq_true_iff, decide_eq_true_iff, and_assoc,
    scaled_lt_scaled (by omega) (by omega), scaled_lt_scaled (by omega) (by omega), hsquare, hsquare, dyadic_one_zero,
    dyadic_add, dyadic_le_dyadic]
  refine and_congr_right fun h => ?_
  have hsub : dyadic (v - g) w = dyadic v w - dyadic g w := by
    have hsum := dyadic_add (v - g) g w
    rw [Nat.sub_add_cancel h] at hsum
    rw [hsum, Rat.add_sub_cancel]
  rw [hsub]

/-- `2^x` is the power of two at or below the reciprocal of `m * 2^e`, `x` the exponent that the bounds use. -/
theorem recipExp_spec {m : Nat} (hm : 0 < m) (e : Int) :
    twoPow (recipExp m e) * dyadic m e ≤ 1 ∧ 1 < twoPow (recipExp m e + 1) * dyadic m e := by
  have hlo : twoPow m.log2 ≤ m := by
    rw [twoPow_natCast]
    exact Rat.natCast_le_natCast.2 (Nat.log2_self_le (Nat.ne_of_gt hm))
  have hhi : (m : Rat) < 2 * twoPow m.log2 := by
    have hnat : (m : Rat) < ((2 ^ (m.log2 + 1) : Nat) : Rat) := Rat.natCast_lt_natCast.2 Nat.lt_log2_self
    rwa [← twoPow_natCast, Int.natCast_add, Int.natCast_one, twoPow_succ] at hnat
  have hpow : m = 2 ^ m.log2 ↔ (m : Rat) = twoPow m.log2 := by rw [twoPow_natCast, Rat.natCast_inj]
  have hscale : twoPow (-e - m.log2) * dyadic m e * twoPow m.log2 = m := by
    have hzero : twoPow (-e - m.log2) * twoPow e * twoPow m.log2 = 1 := by
      rw [← twoPow_add, ← twoPow_add, ← twoPow_zero]; congr 1; omega
    rw [dyadic]
    grind
  have hpos := twoPow_pos m.log2
  unfold recipExp
  split
  case isTrue h =>
    have hone : twoPow (-e - m.log2) * dyadic m e = 1 := by
      have hm := hpow.1 h
      exact Rat.le_antisymm (Rat.le_of_mul_le_mul_right (by grind) hpos) (Rat.le_of_mul_le_mul_right (by grind) hpos)
    rw [twoPow_succ, Rat.mul_assoc, hone]
    exact ⟨Rat.le_refl, by grind⟩
  case isFalse h =>
    have hgt : 1 < twoPow (-e - m.log2) * dyadic m e := by
      refine Rat.lt_of_mul_lt_mul_right ?_ (Rat.le_of_lt hpos)
      rw [hscale, Rat.one_mul]
      exact Rat.lt_of_le_of_ne hlo fun heq => h (hpow.2 heq.symm)
    have hlt : twoPow (-e - m.log2) * dyadic m e < 2 := by
      refine Rat.lt_of_mul_lt_mul_right ?_ (Rat.le_of_lt hpos)
      rwa [hscale]
    have hhalf := twoPow_succ (-e - m.log2 - 1)
    rw [Int.sub_add_cancel] at hhalf ⊢
    refine ⟨?_, hgt⟩
    rw [hhalf, Rat.mul_assoc] at hlt
    grind

/-! ## The member that the model falls back to -/

/-- The search ends where the test changes from true to false. -/
theorem largestSeed_spec {ok : Nat → Bool} (n k : Nat) (hk : ok k = true) (hn : ok (k + 2 ^ n) = false) :
    k ≤ largestSeed ok n k ∧ largestSeed ok n k < k + 2 ^ n ∧ ok (largestSeed ok n k) = true ∧
      ok (largestSeed ok n k + 1) = false := by
  induction n generalizing k with
  | zero => exact ⟨Nat.le_refl k, Nat.lt_succ_self k, hk, hn⟩
  | succ n ih =>
    have hpow : 2 ^ (n + 1) = 2 ^ n + 2 ^ n := by omega
    rw [largestSeed]
    split
    case isTrue hmid =>
      obtain ⟨hge, hlt, hspec⟩ := ih (k + 2 ^ n) hmid (by rwa [hpow, ← Nat.add_assoc] at hn)
      exact ⟨by omega, by omega, hspec⟩
    case isFalse hmid =>
      obtain ⟨hge, hlt, hspec⟩ := ih k hk (Bool.eq_false_iff.2 hmid)
      exact ⟨hge, by omega, hspec⟩

/-- The reciprocal lies between the first seed and the one after the last. -/
theorem rcp_seeds_enclose {m : Nat} (hm : 0 < m) (e : Int) :
    dyadic 256 (recipExp m e - 8) * dyadic m e ≤ 1 ∧ 1 < dyadic 512 (recipExp m e - 8) * dyadic m e := by
  have hfirst : dyadic 256 (recipExp m e - 8) = twoPow (recipExp m e) := by
    rw [show 256 = 2 ^ 8 from rfl, dyadic_two_pow]; congr 1; omega
  have hlast : dyadic 512 (recipExp m e - 8) = twoPow (recipExp m e + 1) := by
    rw [show 512 = 2 ^ 9 from rfl, dyadic_two_pow]; congr 1; omega
  rw [hfirst, hlast]
  exact recipExp_spec hm e

/-- So does the reciprocal square root, whose exponent is half, rounded down. -/
theorem rsqr_seeds_enclose {m : Nat} (hm : 0 < m) (e : Int) :
    dyadic 256 (recipExp m e / 2 - 8) * dyadic 256 (recipExp m e / 2 - 8) * dyadic m e ≤ 1 ∧
      1 < dyadic 512 (recipExp m e / 2 - 8) * dyadic 512 (recipExp m e / 2 - 8) * dyadic m e := by
  obtain ⟨hlo, hhi⟩ := recipExp_spec hm e
  have hb := Rat.le_of_lt (dyadic_pos hm e)
  have hfirst : dyadic 256 (recipExp m e / 2 - 8) * dyadic 256 (recipExp m e / 2 - 8) ≤ twoPow (recipExp m e) := by
    rw [show 256 = 2 ^ 8 from rfl, dyadic_two_pow, ← twoPow_add]
    exact twoPow_le_twoPow (by omega)
  have hlast :
      twoPow (recipExp m e + 1) ≤ dyadic 512 (recipExp m e / 2 - 8) * dyadic 512 (recipExp m e / 2 - 8) := by
    rw [show 512 = 2 ^ 9 from rfl, dyadic_two_pow, ← twoPow_add]
    exact twoPow_le_twoPow (by omega)
  have hlow := Rat.mul_le_mul_of_nonneg_right hfirst hb
  have hhigh := Rat.mul_le_mul_of_nonneg_right hlast hb
  exact ⟨Rat.le_trans hlow hlo, by grind⟩

/-- A seed next to the reciprocal of the operand is within the bound of R268. -/
theorem rcpClose_of_adjacent {m mv k : Nat} {e ev : Int} (hm : 0 < m)
    (hv : dyadic mv ev = dyadic k (recipExp m e - 8)) (hlo : dyadic k (recipExp m e - 8) * dyadic m e ≤ 1)
    (hhi : 1 < dyadic (k + 1) (recipExp m e - 8) * dyadic m e) : rcpClose mv ev m e = true := by
  have hpos := Rat.mul_pos (twoPow_pos (recipExp m e - 8)) (dyadic_pos hm e)
  have hulp := twoPow_succ (recipExp m e - 8)
  rw [show recipExp m e - 8 + 1 = recipExp m e - 7 by omega] at hulp
  rw [dyadic_succ, Rat.add_mul] at hhi
  rw [rcpClose_iff, hv, hulp, Rat.mul_assoc]
  exact ⟨by grind, by grind⟩

/-- Squares of magnitudes are ordered as the magnitudes. -/
theorem square_lt_square {x y : Rat} (hx : 0 ≤ x) (h : x < y) : x * x < y * y := by
  have hleft := Rat.mul_le_mul_of_nonneg_left (Rat.le_of_lt h) hx
  have hright := Rat.mul_lt_mul_of_pos_right h (show 0 < y by grind)
  grind

/-- A seed next to the reciprocal of the operand's root is within the bound of R269. -/
theorem rsqrClose_of_adjacent {m mv k : Nat} {e ev : Int} (hm : 0 < m) (hk : 256 ≤ k)
    (hv : dyadic mv ev = dyadic k (recipExp m e / 2 - 8))
    (hlo : dyadic k (recipExp m e / 2 - 8) * dyadic k (recipExp m e / 2 - 8) * dyadic m e ≤ 1)
    (hhi : 1 < dyadic (k + 1) (recipExp m e / 2 - 8) * dyadic (k + 1) (recipExp m e / 2 - 8) * dyadic m e) :
    rsqrClose mv ev m e = true := by
  have hb := dyadic_pos hm e
  have hpos := twoPow_pos (recipExp m e / 2 - 8)
  have hulp := twoPow_succ (recipExp m e / 2 - 8)
  rw [show recipExp m e / 2 - 8 + 1 = recipExp m e / 2 - 7 by omega] at hulp
  have hge := dyadic_le_dyadic (e := recipExp m e / 2 - 8).2 (show 2 ≤ k by omega)
  have htwo : dyadic 2 (recipExp m e / 2 - 8) = 2 * twoPow (recipExp m e / 2 - 8) := rfl
  rw [dyadic_succ] at hhi
  refine (rsqrClose_iff ..).2 ?_
  rw [hv, hulp]
  rw [htwo] at hge
  generalize twoPow (recipExp m e / 2 - 8) = g at *
  generalize dyadic k (recipExp m e / 2 - 8) = v at *
  generalize dyadic m e = b at *
  have hbelow := Rat.mul_lt_mul_of_pos_right (square_lt_square (x := v - 2 * g) (y := v) (by grind) (by grind)) hb
  have habove := Rat.mul_lt_mul_of_pos_right (square_lt_square (x := v + g) (y := v + 2 * g) (by grind) (by grind)) hb
  exact ⟨hge, by grind, by grind⟩

/-! ## Patterns (R260) -/

theorem Prec.two_pow_expBits (p : Prec) : 2 ^ p.expBits = 2 * p.bias + 2 := by cases p <;> rfl

/-- The pattern of a sign, a biased exponent and a fraction. -/
def fpPattern (p : Prec) (neg : Bool) (ex fr : Nat) : DWord :=
  BitVec.ofNat 64 ((if neg then 2 ^ (p.bits - 1) else 0) + (ex * 2 ^ p.fracBits + fr))

/-- Its fields. -/
theorem fpPattern_fields (p : Prec) (neg : Bool) {ex fr : Nat} (hex : ex < 2 ^ p.expBits) (hfr : fr < 2 ^ p.fracBits) :
    let n := (fpPattern p neg ex fr).toNat % 2 ^ p.bits
    decide (2 ^ (p.bits - 1) ≤ n) = neg ∧ n / 2 ^ p.fracBits % 2 ^ p.expBits = ex ∧ n % 2 ^ p.fracBits = fr := by
  unfold fpPattern
  rw [BitVec.toNat_ofNat]
  cases p
  all_goals
    simp only [Prec.bits, Prec.fracBits, Prec.expBits] at hex hfr ⊢
    cases neg
    · simp only [decide_eq_false_iff_not, Bool.false_eq_true, if_false]
      omega
    · simp only [decide_eq_true_iff, if_true]
      omega

/-- A pattern below the infinities stands for the magnitude its fields say. -/
theorem fpMagnitude_fpPattern (p : Prec) (neg : Bool) {ex fr : Nat} (hex : ex < 2 ^ p.expBits - 1)
    (hfr : fr < 2 ^ p.fracBits) :
    fpMagnitude p (fpPattern p neg ex fr) =
      some (neg, if ex = 0 then fr else 2 ^ p.fracBits + fr, ((max ex 1 : Nat) : Int) - p.bias - p.fracBits) := by
  obtain ⟨hsign, hexp, hfrac⟩ := fpPattern_fields p neg (by omega : ex < 2 ^ p.expBits) hfr
  unfold fpMagnitude
  dsimp only
  rw [hsign, hexp, hfrac, if_neg (Nat.ne_of_lt hex)]

theorem fpMagnitude_cut (p : Prec) (v : DWord) : fpMagnitude p (p.cut v) = fpMagnitude p v := by
  have h : (p.cut v).toNat % 2 ^ p.bits = v.toNat % 2 ^ p.bits := by
    cases p
    case s => simp [Prec.cut, Prec.bits]
    case d => rfl
  unfold fpMagnitude
  rw [h]

/-- The pattern of a seed stands for it, in the normal range and below. -/
theorem fpMagnitude_fpSeedPattern (p : Prec) (neg : Bool) {k : Nat} {x : Int} (hk : 256 ≤ k) (hk' : k < 512)
    (hx : -p.bias - 1 ≤ x) (hx' : x ≤ p.bias - 1) :
    ∃ mv ev, fpMagnitude p (fpSeedPattern p neg k (x - 8)) = some (neg, mv, ev) ∧
      dyadic mv ev = dyadic k (x - 8) := by
  have hfrac : 2 ^ p.fracBits = 256 * 2 ^ (p.fracBits - 8) := by cases p <;> rfl
  have hbias := p.two_pow_expBits
  have hlen : 10 ≤ p.fracBits := by cases p <;> decide
  by_cases hn : 1 ≤ x + p.bias
  case pos =>
    have hpat : fpSeedPattern p neg k (x - 8) =
        fpPattern p neg (x + p.bias).toNat ((k - 256) * 2 ^ (p.fracBits - 8)) := by
      rw [fpSeedPattern, Int.sub_add_cancel, if_pos hn]
      rfl
    have hfr : (k - 256) * 2 ^ (p.fracBits - 8) < 2 ^ p.fracBits := by
      rw [hfrac]; exact Nat.mul_lt_mul_of_pos_right (by omega) (Nat.two_pow_pos _)
    have hsig : 2 ^ p.fracBits + (k - 256) * 2 ^ (p.fracBits - 8) = k * 2 ^ (p.fracBits - 8) := by
      rw [hfrac, ← Nat.add_mul, Nat.add_sub_cancel' hk]
    refine ⟨_, _, (congrArg _ hpat).trans (fpMagnitude_fpPattern p neg (by omega) hfr), ?_⟩
    rw [if_neg (by omega), hsig, dyadic_shift]
    congr 1
    omega
  case neg =>
    have hpat : fpSeedPattern p neg k (x - 8) = fpPattern p neg 0 (k * 2 ^ (x + p.bias + p.fracBits - 9).toNat) := by
      have hexp : x - 8 + p.bias + p.fracBits - 1 = x + p.bias + p.fracBits - 9 := by omega
      rw [fpSeedPattern, Int.sub_add_cancel, if_neg hn, fpPattern, Nat.zero_mul, Nat.zero_add, hexp]
    have hfr : k * 2 ^ (x + p.bias + p.fracBits - 9).toNat < 2 ^ p.fracBits := by
      calc k * 2 ^ (x + p.bias + p.fracBits - 9).toNat < 2 ^ 9 * 2 ^ (p.fracBits - 9) :=
            Nat.mul_lt_mul_of_lt_of_le hk' (Nat.pow_le_pow_right (by omega) (by omega)) (Nat.two_pow_pos _)
        _ = 2 ^ p.fracBits := by rw [← Nat.pow_add]; congr 1; omega
    refine ⟨_, _, (congrArg _ hpat).trans (fpMagnitude_fpPattern p neg (by omega) hfr), ?_⟩
    rw [if_pos rfl, dyadic_shift]
    congr 1
    omega

/-- A normal number's significand has its top bit set, and its exponent is in the format's range. -/
theorem fpClass_finite {p : Prec} {v : DWord} {neg : Bool} {m : Nat} {e : Int} (h : fpClass p v = .finite neg m e) :
    Nat.log2 m = p.fracBits ∧ 1 - p.bias - p.fracBits ≤ e ∧ e ≤ p.bias - p.fracBits := by
  have hbias := p.two_pow_expBits
  unfold fpClass at h
  dsimp only at h
  generalize v.toNat % 2 ^ p.bits = n at h
  have hex : n / 2 ^ p.fracBits % 2 ^ p.expBits < 2 ^ p.expBits := Nat.mod_lt _ (Nat.two_pow_pos _)
  have hfr : n % 2 ^ p.fracBits < 2 ^ p.fracBits := Nat.mod_lt _ (Nat.two_pow_pos _)
  split at h
  · split at h <;> cases h
  · split at h
    · cases h
    · cases h
      refine ⟨(Nat.log2_eq_iff (by omega)).2 ⟨by omega, by rw [Nat.pow_succ]; omega⟩, by omega, by omega⟩

theorem pos_of_fpClass_finite {p : Prec} {v : DWord} {neg : Bool} {m : Nat} {e : Int}
    (h : fpClass p v = .finite neg m e) : 0 < m := by
  refine Nat.pos_of_ne_zero fun hm => ?_
  have hlog := (fpClass_finite h).1
  rw [hm, Nat.log2_zero] at hlog
  cases p <;> cases hlog

/-- The reciprocal of a normal number is at most one binade below the normal range: a denormal of 9 bits holds it. -/
theorem recipExp_range {p : Prec} {v : DWord} {neg : Bool} {m : Nat} {e : Int} (h : fpClass p v = .finite neg m e) :
    -(p.bias : Int) - 1 ≤ recipExp m e ∧ recipExp m e ≤ p.bias - 1 := by
  obtain ⟨hlog, hlo, hhi⟩ := fpClass_finite h
  unfold recipExp
  rw [hlog]
  split
  · omega
  · omega

/-! ## The member written (R268, R269) -/

/-- What a bounded result is, where the search starts within the bound and ends outside it: a magnitude of the right
sign that is close, be it the free value or the seed found. -/
theorem fpSeed_member {query : Config.FpQuery} {p : Prec} {neg : Bool} {x : Int} {close below : Nat → Int → Bool}
    {candidate : DWord} (hx : -p.bias - 1 ≤ x) (hx' : x ≤ p.bias - 1) (hfirst : below 256 (x - 8) = true)
    (hlast : below 512 (x - 8) = false)
    (hclose : ∀ k mv ev, 256 ≤ k → dyadic mv ev = dyadic k (x - 8) → below k (x - 8) = true →
      below (k + 1) (x - 8) = false → close mv ev = true) :
    ∃ mv ev, fpMagnitude p (fpSeed query p neg x close below candidate).value = some (neg, mv, ev) ∧
      close mv ev = true := by
  obtain ⟨hk, hk', hin, hout⟩ := largestSeed_spec (ok := fun k => below k (x - 8)) 8 256 hfirst hlast
  obtain ⟨mv, ev, hmag, hval⟩ := fpMagnitude_fpSeedPattern p neg hk hk' hx hx'
  have hfallback := hclose _ mv ev hk hval hin hout
  unfold fpSeed
  dsimp only
  split
  case h_1 nc mc ec hc =>
    split
    case isTrue h =>
      rw [Bool.and_eq_true, decide_eq_true_iff] at h
      obtain ⟨rfl, h⟩ := h
      exact ⟨mc, ec, (fpMagnitude_cut p candidate).trans hc, h⟩
    case isFalse => exact ⟨mv, ev, hmag, hfallback⟩
  case h_2 => exact ⟨mv, ev, hmag, hfallback⟩

section
variable {sp rp : Prec} {env : FpEnv} {b candidate : DWord} {neg : Bool} {m : Nat} {e : Int}

theorem fpRcp_finite (h : fpClass sp b = .finite neg m e) :
    fpRcp sp rp env b candidate =
      fpSeed (fpQuery 3 sp rp env b candidate) rp neg (recipExp m e) (fun mv ev => rcpClose mv ev m e)
        (fun k ek => decide (scaled (k * m) (ek + e) (ek + e).natAbs ≤ scaled 1 0 (ek + e).natAbs)) candidate := by
  unfold fpRcp
  rw [h]

theorem fpRsqr_finite (h : fpClass sp b = .finite false m e) :
    fpRsqr sp rp env b candidate =
      fpSeed (fpQuery 4 sp rp env b candidate) rp false (recipExp m e / 2) (fun mv ev => rsqrClose mv ev m e)
        (fun k ek => decide (scaled (k * k * m) (2 * ek + e) (2 * ek + e).natAbs ≤ scaled 1 0 (2 * ek + e).natAbs))
        candidate := by
  unfold fpRsqr
  rw [h]

variable (hbias : sp.bias ≤ rp.bias)
include hbias

/-- frcp of a normal operand is a member of the set of R268. -/
theorem fpRcp_member (h : fpClass sp b = .finite neg m e) :
    (fpRcp sp rp env b candidate).se = false ∧
      ∃ mv ev, fpMagnitude rp (fpRcp sp rp env b candidate).value = some (neg, mv, ev) ∧
        rcpClose mv ev m e = true := by
  have hm := pos_of_fpClass_finite h
  obtain ⟨hx, hx'⟩ := recipExp_range h
  have hbelow (k : Nat) (ek : Int) :
      scaled (k * m) (ek + e) (ek + e).natAbs ≤ scaled 1 0 (ek + e).natAbs ↔ dyadic k ek * dyadic m e ≤ 1 := by
    rw [scaled_le_one, dyadic_mul]
  rw [fpRcp_finite h]
  refine ⟨rfl, fpSeed_member (by omega) (by omega) ?first ?last ?close⟩
  case first =>
    rw [decide_eq_true_iff, hbelow]
    exact (rcp_seeds_enclose hm e).1
  case last =>
    rw [decide_eq_false_iff_not, hbelow, Rat.not_le]
    exact (rcp_seeds_enclose hm e).2
  case close =>
    intro k mv ev _ hv hin hout
    rw [decide_eq_true_iff, hbelow] at hin
    rw [decide_eq_false_iff_not, hbelow, Rat.not_le] at hout
    exact rcpClose_of_adjacent hm hv hin hout

/-- frsqr of a positive normal operand is a member of the set of R269. -/
theorem fpRsqr_member (h : fpClass sp b = .finite false m e) :
    (fpRsqr sp rp env b candidate).se = false ∧
      ∃ mv ev, fpMagnitude rp (fpRsqr sp rp env b candidate).value = some (false, mv, ev) ∧
        rsqrClose mv ev m e = true := by
  have hm := pos_of_fpClass_finite h
  obtain ⟨hx, hx'⟩ := recipExp_range h
  have hbelow (k : Nat) (ek : Int) :
      scaled (k * k * m) (2 * ek + e) (2 * ek + e).natAbs ≤ scaled 1 0 (2 * ek + e).natAbs ↔
        dyadic k ek * dyadic k ek * dyadic m e ≤ 1 := by
    rw [scaled_le_one, Int.two_mul, dyadic_mul, dyadic_mul]
  rw [fpRsqr_finite h]
  refine ⟨rfl, fpSeed_member (by omega) (by omega) ?first ?last ?close⟩
  case first =>
    rw [decide_eq_true_iff, hbelow]
    exact (rsqr_seeds_enclose hm e).1
  case last =>
    rw [decide_eq_false_iff_not, hbelow, Rat.not_le]
    exact (rsqr_seeds_enclose hm e).2
  case close =>
    intro k mv ev hk hv hin hout
    rw [decide_eq_true_iff, hbelow] at hin
    rw [decide_eq_false_iff_not, hbelow, Rat.not_le] at hout
    exact rsqrClose_of_adjacent hm hk hv hin hout

end

/-- Settles O47: the value drawn or the seed found is written, and for a normal operand either is in the set. -/
theorem reciprocalsWriteAMemberOfTheSet : Obligations.ReciprocalsWriteAMemberOfTheSet := by
  intro src2 dest d s hs seed frcp frsqr
  have hrcp {i sp rp} (hd : dbit i = some d) (hc : isControl i = false)
      (he : effect i s = scalarSeed fpRcp sp rp src2 dest s) (hfit : fits1 sp src2 rp dest = true)
      (hbias : sp.bias ≤ rp.bias) : frcp i sp rp :=
    ⟨gives_scalarSeed hs hd hc hfit he, fun neg m e hclass _ => fpRcp_member hbias hclass⟩
  have hrsqr {i sp rp} (hd : dbit i = some d) (hc : isControl i = false)
      (he : effect i s = scalarSeed fpRsqr sp rp src2 dest s) (hfit : fits1 sp src2 rp dest = true)
      (hbias : sp.bias ≤ rp.bias) : frsqr i sp rp := by
    refine ⟨gives_scalarSeed hs hd hc hfit he, fun neg m e hclass hneg => ?_⟩
    rw [List.mem_singleton.1 hneg] at hclass ⊢
    exact fpRsqr_member hbias hclass
  refine ⟨hrcp rfl rfl rfl rfl (Nat.le_refl _), hrsqr rfl rfl rfl rfl (Nat.le_refl _), fun hdest => ?sd,
    fun hsrc hdest => ?dd⟩
  case sd =>
    have hfit : fits1 .s src2 .d dest = true := fits1_of rfl (Prec.fits_d hdest)
    have hbias : Prec.s.bias ≤ Prec.d.bias := by decide
    exact ⟨hrcp rfl rfl rfl hfit hbias, hrsqr rfl rfl rfl hfit hbias⟩
  case dd =>
    have hfit : fits1 .d src2 .d dest = true := fits1_of (Prec.fits_d hsrc) (Prec.fits_d hdest)
    exact ⟨hrcp rfl rfl rfl hfit (Nat.le_refl _), hrsqr rfl rfl rfl hfit (Nat.le_refl _)⟩

end Sys2Proof.Machine
end

section
/-!
PROOFS. Pipelined floating point: what a pipeline delivers, and that an adder, compare or multiply form delivers the
last stage of its unit and enters its result (O50, O51, O52, O53).
-/
namespace Sys2Proof.Machine

/-! ## An instruction that is refused -/

/-- A floating-point-format instruction whose effect is refused, in the mode it may run in. -/
theorem refused_fp {i : Instr} {s : State} {d : Bool} {r : Refusal} (hs : FpReady s d) (hd : dbit i = some d)
    (hc : isControl i = false) (he : effect i s = .refuse r) : exec i s = .refused r := by
  obtain ⟨hmode, hdual, _⟩ := hs
  refine exec_of_refuse hmode (fun harmed hfalse => ?_) (by simp [hc]) he
  rw [hd, hdual harmed] at hfalse
  cases hfalse

/-! ## Delivery (R291) -/

section
variable {s : State} {dest : Reg}

/-- f0 and f1 discard whatever leaves the pipeline (R31). -/
theorem deliver_zero (h : dest = 0 ∨ dest = 1) (e : Entry) (p : Prec) : deliver s e dest p = .ok s :=
  if_pos ((isFZero_iff dest).2 h)

variable (h : ¬(dest = 0 ∨ dest = 1))
include h

theorem deliver_val (v : DWord) (p : Prec) : deliver s (.val v p) dest p = .ok (s.fwrite dest p v) :=
  (if_neg (mt (isFZero_iff dest).1 h)).trans (if_pos rfl)

theorem deliver_val_of_ne {p q : Prec} (hq : q ≠ p) (v : DWord) :
    deliver s (.val v q) dest p = .error .pipePrecision :=
  (if_neg (mt (isFZero_iff dest).1 h)).trans (if_neg hq)

/-- An undefined entry is a free value (U6). -/
theorem deliver_undef (p : Prec) : deliver s .undef dest p = .ok (s.tick.fwrite dest p s.drawn) :=
  if_neg (mt (isFZero_iff dest).1 h)

end

/-- Settles O50: one equation for each entry that may leave a pipeline. -/
theorem deliveryFromAPipeline : Obligations.DeliveryFromAPipeline :=
  fun _ _ p _ v e => ⟨fun h => deliver_zero h e p, fun h =>
    ⟨deliver_val h v p, fun hq => deliver_val_of_ne h hq v, deliver_undef h p⟩⟩

/-- A delivery writes registers and draws free values: psr and what the note of an exception sees stay. -/
theorem deliver_keeps {t u : State} {old : Entry} {dest : Reg} {p : Prec} (h : deliver t old dest p = .ok u) :
    u.psr = t.psr ∧ u.fsr = t.fsr ∧ u.fpPending = t.fpPending := by
  rcases deliver_ok h with ⟨_, rfl⟩ | ⟨v, _, rfl⟩ | ⟨_, rfl⟩
  · exact ⟨rfl, rfl, rfl⟩
  · exact ⟨t.fwrite_psr dest p v, t.fwrite_fsr dest p v, t.fwrite_fpPending dest p v⟩
  · exact ⟨t.tick.fwrite_psr dest p _, t.tick.fwrite_fsr dest p _, t.tick.fwrite_fpPending dest p _⟩

/-- The note of a result exception does not see the delivery (R407). -/
theorem State.pends_delivered {t u : State} {old : Entry} {dest : Reg} {p : Prec} (h : deliver t old dest p = .ok u)
    (o : FpOut) : u.pends o = t.pends o := by
  obtain ⟨_, hfsr, hpending⟩ := deliver_keeps h
  exact State.pends_congr o hfsr hpending

/-! ## The adder pipeline (R290, R293 to R297) -/

/-- With no source exception and a delivery that is not refused, the new entry takes the first stage. -/
theorem pipedAdder_ok {t u : State} {rp : Prec} {dest : Reg} {o : FpOut} (ho : NoSourceTrap t o)
    (hu : deliver t t.aPipe.q3 dest rp = .ok u) (new : Entry) :
    pipedAdder rp dest new o t =
      .ok { u with aPipe := ⟨new, t.aPipe.q1, t.aPipe.q2⟩, fpPending := t.pends o } .seq := by
  rw [pipedAdder, checkSource_none _ _ _ ho, hu, ← State.pends_delivered hu]
  exact congrArg (Eff.ok · .seq) (State.noteResult_eq ..)

section
variable {i : Instr} {s u : State} {d : Bool} {sp rp : Prec} {src src1 src2 dest : Reg}
variable (hs : FpReady s d) (hd : dbit i = some d) (hc : isControl i = false)
include hs hd hc

theorem gives_pipedAdder2 {f : Prec → Prec → FpEnv → DWord → DWord → FpOut}
    (hfit : fits2 sp src1 src2 rp dest = true) (he : effect i s = pipedAdder2 f sp rp src1 src2 dest s) :
    let o := f sp rp s.fpEnv (s.fread src1 sp) (s.fread src2 sp)
    NoSourceTrap s o → deliver s s.aPipe.q3 dest rp = .ok u →
      Gives i d s { u with aPipe := ⟨.val o.value rp, s.aPipe.q1, s.aPipe.q2⟩, fpPending := s.pends o } :=
  fun ho hu => gives_reportResult hs hd hc hfit he (pipedAdder_ok ho hu _)

/-- A move through the adder notes no exception of its result (R297). -/
theorem gives_pipedMove (hfit : fits1 sp src rp dest = true) (he : effect i s = pipedMove sp rp src dest s) :
    let o := fpCvt sp rp s.fpEnv (s.fread src sp)
    NoSourceTrap s o → deliver s s.aPipe.q3 dest rp = .ok u →
      Gives i d s { u with aPipe := ⟨.val o.value rp, s.aPipe.q1, s.aPipe.q2⟩, fpPending := s.fpPending } := by
  intro o ho hu
  rw [← State.pends_noResult s o]
  exact gives_reportResult hs hd hc hfit he (pipedAdder_ok (o := o.noResult) ho hu _)

section
variable {f : Prec → FpEnv → DWord → FpOut}

theorem gives_pipedToInt_single (hfit : sp.fits src = true) (he : effect i s = pipedToInt f sp .s src dest s) :
    let o := f sp s.fpEnv (s.fread src sp)
    NoSourceTrap s o → deliver s s.aPipe.q3 dest .s = .ok u →
      Gives i d s { u with aPipe := ⟨.val o.value .s, s.aPipe.q1, s.aPipe.q2⟩, fpPending := s.pends o } :=
  fun ho hu => gives_reportResult hs hd hc (fits1_of hfit rfl) he (pipedAdder_ok ho hu _)

/-- The upper half of a double entry is the free value that the conversion draws before the delivery (D27). -/
theorem gives_pipedToInt_double (hfit : sp.fits src = true) (hdest : Prec.d.fits dest = true)
    (he : effect i s = pipedToInt f sp .d src dest s) :
    let o := f sp s.fpEnv (s.fread src sp)
    NoSourceTrap s o → deliver s.tick s.aPipe.q3 dest .d = .ok u →
      Gives i d s { u with
        aPipe := ⟨.val (s.drawn.extractLsb' 0 32 ++ o.value.extractLsb' 0 32) .d, s.aPipe.q1, s.aPipe.q2⟩
        fpPending := s.pends o } := by
  intro o ho hu
  rw [← BitVec.setWidth_eq_extractLsb' (x := o.value) (by omega)]
  exact gives_reportResult hs hd hc (fits1_of hfit hdest) he (pipedAdder_ok (t := s.tick) ho hu _)

end

/-- A compare sets CC beside the undefined entry, clear for the relation that pfle tests (R298 to R300). -/
theorem gives_pipedCompare {f : Prec → FpEnv → DWord → DWord → FpCond} {holds : Bool}
    (hfit : fits2 sp src1 src2 sp dest = true) (he : effect i s = pipedCompare f (!holds) sp src1 src2 dest s) :
    let c := f sp s.fpEnv (s.fread src1 sp) (s.fread src2 sp)
    (fsrFte s.fsr = true → c.se = false) → deliver s s.aPipe.q3 dest sp = .ok u → Gives i d s
      { u with aPipe := ⟨.undef, s.aPipe.q1, s.aPipe.q2⟩
               psr := { s.psr with cc := if c.cc then holds else !holds } } := by
  intro c hse hu
  have hcc : (if c.cc then holds else !holds) = (c.cc != !holds) := by cases c.cc <;> simp
  obtain ⟨hpsr, _, _⟩ := deliver_keeps hu
  rw [hcc, ← hpsr]
  refine gives_reportResult hs hd hc hfit he ?_
  rw [checkSource_none _ _ _ hse, hu]
  rfl

end

/-- Settles O51: each form is the adder pipeline's operation on its configuration function. -/
theorem pipelinedAdderAdvancesOneStage : Obligations.PipelinedAdderAdvancesOneStage := by
  intro src1 src2 dest d s u hs enters two move integer
  have htwo {i f sp rp} (hd : dbit i = some d) (hc : isControl i = false)
      (he : effect i s = pipedAdder2 f sp rp src1 src2 dest s) (hfit : fits2 sp src1 src2 rp dest = true) :
      two i f sp rp := gives_pipedAdder2 hs hd hc hfit he
  have hmove {i sp rp} (hd : dbit i = some d) (hc : isControl i = false)
      (he : effect i s = pipedMove sp rp src1 dest s) (hsrc : sp.fits src1 = true) (hdest : rp.fits dest = true) :
      move i sp rp := gives_pipedMove hs hd hc (fits1_of hsrc hdest) he
  have hinteger {i f sp} (hdest : dest.toNat % 2 = 0) (hd : dbit i = some d) (hc : isControl i = false)
      (he : effect i s = pipedToInt f sp .d src1 dest s) (hfit : sp.fits src1 = true) : integer i f sp :=
    fun ho hu => ⟨_, gives_pipedToInt_double hs hd hc hfit (Prec.fits_d hdest) he ho hu⟩
  refine ⟨htwo rfl rfl rfl rfl, htwo rfl rfl rfl rfl, hmove rfl rfl rfl rfl rfl,
    gives_pipedToInt_single hs rfl rfl rfl rfl, gives_pipedToInt_single hs rfl rfl rfl rfl,
    fun hdest => ?sd, fun h1 => ?ds, fun h1 hdest => ?dd⟩
  case sd =>
    have hfit := Prec.fits_d hdest
    have hfits : fits2 .s src1 src2 .d dest = true := fits2_of rfl rfl hfit
    exact ⟨htwo rfl rfl rfl hfits, htwo rfl rfl rfl hfits, hmove rfl rfl rfl rfl hfit, hmove rfl rfl rfl rfl hfit,
      hinteger hdest rfl rfl rfl rfl, hinteger hdest rfl rfl rfl rfl⟩
  case ds => exact ⟨hmove rfl rfl rfl (Prec.fits_d h1) rfl, hmove rfl rfl rfl (Prec.fits_d h1) rfl⟩
  case dd =>
    have hfit := Prec.fits_d h1
    refine ⟨hmove rfl rfl rfl hfit (Prec.fits_d hdest), hinteger hdest rfl rfl rfl hfit,
      hinteger hdest rfl rfl rfl hfit, fun h2 => ?_⟩
    have hfits : fits2 .d src1 src2 .d dest = true := fits2_of hfit (Prec.fits_d h2) (Prec.fits_d hdest)
    exact ⟨htwo rfl rfl rfl hfits, htwo rfl rfl rfl hfits⟩

/-- Settles O52: pfgt and pfeq set CC where the relation holds, pfle clears it. -/
theorem comparesSetCcAndInsertUndefined : Obligations.ComparesSetCcAndInsertUndefined := by
  intro src1 src2 dest d s u hs compares
  have h {i f p} (holds : Bool) (hd : dbit i = some d) (hc : isControl i = false)
      (he : effect i s = pipedCompare f (!holds) p src1 src2 dest s) (hfit : fits2 p src1 src2 p dest = true) :
      compares i f holds p := gives_pipedCompare hs hd hc hfit he
  refine ⟨h true rfl rfl rfl rfl, h false rfl rfl rfl rfl, h true rfl rfl rfl rfl, fun h1 h2 hdest => ?_⟩
  have hfits : fits2 .d src1 src2 .d dest = true := fits2_of (Prec.fits_d h1) (Prec.fits_d h2) (Prec.fits_d hdest)
  exact ⟨h true rfl rfl rfl hfits, h false rfl rfl rfl hfits, h true rfl rfl rfl hfits⟩

/-! ## The multiplier pipeline (R301 to R303) -/

/-- Three stages take the place of two only where no entry is in flight (R301). -/
theorem MPipe.ready_two_true : ∀ a b : Entry,
    (MPipe.two a b).ready true = if a = .undef ∧ b = .undef then some (.three .undef .undef .undef) else none
  | .undef, .undef => rfl
  | .undef, .val _ _ => rfl
  | .val _ _, _ => rfl

theorem MPipe.ready_three_false : ∀ a b c : Entry,
    (MPipe.three a b c).ready false =
      if a = .undef ∧ b = .undef ∧ c = .undef then some (.two .undef .undef) else none
  | .undef, .undef, .undef => rfl
  | .undef, .undef, .val _ _ => rfl
  | .undef, .val _ _, _ => rfl
  | .val _ _, _, _ => rfl

theorem regsOverlap_single {i j : Reg} (h : i ≠ j) : regsOverlap .s i .s j = false := by
  simpa [regsOverlap, Prec.regs] using h

theorem regsOverlap_single_double {i j : Reg} (h : i ≠ j ∧ i ≠ j + 1) : regsOverlap .s i .d j = false := by
  simpa [regsOverlap, Prec.regs] using h

/-- Two register pairs are one pair or disjoint. -/
theorem regsOverlap_double {i j : Reg} (hi : i.toNat % 2 = 0) (hj : j.toNat % 2 = 0) (h : i ≠ j) :
    regsOverlap .d i .d j = false := by
  have hhigh : i ≠ j + 1 := by bv_omega
  have hlow : i + 1 ≠ j := by bv_omega
  simpa [regsOverlap, Prec.regs, h] using ⟨hhigh, hlow⟩

theorem mulSourceOk_of {sp rp : Prec} {src1 dest : Reg} (h : dest = 0 ∨ regsOverlap sp src1 rp dest = false) :
    mulSourceOk sp src1 rp dest = true := by
  rcases h with h | h <;> simp [mulSourceOk, h]

section
variable {i : Instr} {s u : State} {d three : Bool} {sp rp : Prec} {src1 src2 dest : Reg}
variable (hs : FpReady s d) (hd : dbit i = some d) (hc : isControl i = false)
variable (hfit : fits2 sp src1 src2 rp dest = true) (hsrc : mulSourceOk sp src1 rp dest = true)
variable (he : effect i s = pipedMultiplier three sp rp src1 src2 dest s)
include hs hd hc hfit hsrc he

theorem gives_pipedMultiplier {m : MPipe} (hm : s.mPipe.ready three = some m) :
    let o := fpMul sp rp s.fpEnv (s.fread src1 sp) (s.fread src2 sp)
    NoSourceTrap s o → deliver s m.last dest rp = .ok u →
      Gives i d s { u with mPipe := m.push (.val o.value rp), fpPending := s.pends o } := by
  intro o ho hu
  rw [pipedMultiplier, demand_of _ _ _ hfit, hm] at he
  refine gives_reportResult hs hd hc hsrc he ?_
  refine (checkSource_none _ _ _ ho).trans ?_
  rw [hu, ← State.pends_delivered hu]
  exact congrArg (Eff.ok · .seq) (State.noteResult_eq ..)

theorem refused_pipedMultiplier (hm : s.mPipe.ready three = none) : exec i s = .refused .mulStageCount := by
  refine refused_fp hs hd hc (he.trans ?_)
  rw [pipedMultiplier, demand_of _ _ _ hfit, demand_of _ _ _ hsrc, reportResult_none _ _ hs.2.2, hm]

end

/-- Settles O53: the table of stage counts, and each form on the pipeline it finds or takes. -/
theorem pipelinedMultiplyAdvancesItsPipeline : Obligations.PipelinedMultiplyAdvancesItsPipeline := by
  refine ⟨fun a b c => ⟨rfl, rfl, MPipe.ready_three_false a b c, MPipe.ready_two_true a b⟩, ?_⟩
  intro src1 src2 dest d s hs multiplies
  have h {i three sp rp} (hd : dbit i = some d) (hc : isControl i = false)
      (he : effect i s = pipedMultiplier three sp rp src1 src2 dest s) (hfit : fits2 sp src1 src2 rp dest = true)
      (hsrc : dest = 0 ∨ regsOverlap sp src1 rp dest = false) : multiplies i three sp rp :=
    ⟨fun _ _ hm => gives_pipedMultiplier hs hd hc hfit (mulSourceOk_of hsrc) he hm,
      refused_pipedMultiplier hs hd hc hfit (mulSourceOk_of hsrc) he⟩
  refine ⟨fun hne => ?ss, fun hdest hne => ?sd, fun h1 h2 hdest hne => ?dd⟩
  case ss => exact h rfl rfl rfl rfl (hne.imp_right regsOverlap_single)
  case sd =>
    exact h rfl rfl rfl (fits2_of rfl rfl (Prec.fits_d hdest)) (hne.imp_right regsOverlap_single_double)
  case dd =>
    have hfits : fits2 .d src1 src2 .d dest = true := fits2_of (Prec.fits_d h1) (Prec.fits_d h2) (Prec.fits_d hdest)
    have hsrc := hne.imp_right (regsOverlap_double h1 hdest)
    exact ⟨h rfl rfl rfl hfits hsrc, h rfl rfl rfl hfits hsrc⟩

end Sys2Proof.Machine
end

section
/-!
PROOFS. Dual operations: at one precision both units start on the operands of the data path and one last stage is
delivered, m12apm.ss is the row of the dot-product loop, and the mixed-precision forms are refused (O54, O55, O56).
-/
namespace Sys2Proof.Machine

/-! ## A unit's answer (R330) -/

/-- A unit with an undefined operand reports nothing. -/
theorem dualOut_se {mo : Option FpOut} (h : ∀ o, mo = some o → o.se = false) : (dualOut mo).se = false := by
  cases mo with
  | none => rfl
  | some o => exact h o rfl

theorem State.pends_dualOut (s : State) : ∀ mo : Option FpOut,
    s.pends (dualOut mo) = match mo with | some o => s.pends o | none => s.fpPending
  | none => by simp [dualOut, FpOut.exact, State.pends]
  | some _ => rfl

/-- With FTE clear nothing becomes pending (R406). -/
theorem State.pends_of_fte_clear {s : State} (h : fsrFte s.fsr = false) (o : FpOut) : s.pends o = s.fpPending := by
  simp [State.pends, h]

/-- The notes of two answers, in a state that reports as `s` does (R407). -/
theorem State.noteResult_noteResult {s t : State} (o o' : FpOut) (hfsr : t.fsr = s.fsr)
    (hpending : t.fpPending = s.fpPending) :
    (t.noteResult o).noteResult o' = { t with fpPending := s.pends o || s.pends o' } := by
  have hpends : { t with fpPending := t.pends o }.pends o' = (s.pends o || s.pends o') := by
    cases hp : s.fpPending <;> simp [State.pends, hfsr, hpending, hp]
  rw [State.noteResult_eq, State.noteResult_eq, hpends]

/-! ## Both units start (R324 to R331) -/

/-- The effects of a dual operation from `s` whose delivery leaves `u`, with the answers `mo` and `ao` of the
multiplier and the adder. -/
def State.dualStarted (s u : State) (m : MPipe) (path : DataPath) (p : Prec) (src1 : Reg) (mo ao : Option FpOut) :
    State :=
  { (u.loadT path.tLoad m.last p).loadK path.kLoad (s.fread src1 p) p with
    aPipe := s.aPipe.push (dualEntry p ao)
    mPipe := m.push (dualEntry p mo)
    fpPending := s.pends (dualOut mo) || s.pends (dualOut ao) }

/-- The notes of both answers do not see the delivery and the loads of T and K. -/
theorem State.noteResult_dualStarted {s u : State} {e : Entry} {dest : Reg} {p : Prec} (hu : deliver s e dest p = .ok u)
    (m : MPipe) (path : DataPath) (src1 : Reg) (mo ao : Option FpOut) :
    ({ (u.loadT path.tLoad m.last p).loadK path.kLoad (s.fread src1 p) p with
        aPipe := s.aPipe.push (dualEntry p ao)
        mPipe := m.push (dualEntry p mo) }.noteResult (dualOut mo)).noteResult (dualOut ao) =
      s.dualStarted u m path p src1 mo ao := by
  obtain ⟨_, hfsr, hpending⟩ := deliver_keeps hu
  exact State.noteResult_noteResult _ _ (((State.loadK_fsr ..).trans (State.loadT_fsr ..)).trans hfsr)
    (((State.loadK_fpPending ..).trans (State.loadT_fpPending ..)).trans hpending)

/-- With no source exception of either unit and a delivery that is not refused, both units start. -/
theorem gives_dualOperation {i : Instr} {s u : State} {d toMul : Bool} {p : Prec} {path : DataPath}
    {src1 src2 dest : Reg} {m : MPipe} {f : Prec → Prec → FpEnv → DWord → DWord → FpOut}
    (hs : FpReady s d) (hd : dbit i = some d) (hc : isControl i = false)
    (he : effect i s = dualOperation f toMul path p src1 src2 dest s) (hfit : fits2 p src1 src2 p dest = true)
    (hsrc : dualSourceOk path p src1 dest = true) (hm : s.mPipe.ready p.threeStage = some m) :
    let operand := s.dualOperand m p src1 src2
    let mo := dualAnswer fpMul s.fpEnv p (operand path.m1) (operand path.m2)
    let ao := dualAnswer f s.fpEnv p (operand path.a1) (operand path.a2)
    (fsrFte s.fsr = true → (dualOut mo).se = false ∧ (dualOut ao).se = false) →
    deliver s (if toMul then m.last else s.aPipe.q3) dest p = .ok u →
      Gives i d s (s.dualStarted u m path p src1 mo ao) := by
  intro operand mo ao hse hu
  rw [dualOperation, demand_of _ _ _ hfit, hm] at he
  refine gives_reportResult hs hd hc hsrc he ?_
  have hquiet (hfte : fsrFte s.fsr = true) : ((dualOut mo).se || (dualOut ao).se) = false := by
    obtain ⟨hmo, hao⟩ := hse hfte
    rw [hmo, hao]
    rfl
  refine (checkSource_none _ _ _ hquiet).trans ?_
  rw [hu]
  exact congrArg (Eff.ok · .seq) (State.noteResult_dualStarted hu ..)

/-- Settles O54: each form is the dual operation of its adder function, its table and its delivering unit. -/
theorem dualOperationsStartBothUnits : Obligations.DualOperationsStartBothUnits := by
  intro dpc src1 src2 dest d s u m hs starts
  have h {i f path p toMul} (hd : dbit i = some d) (hc : isControl i = false)
      (he : effect i s = dualOperation f toMul path p src1 src2 dest s) : starts i f path p toMul := by
    intro h1 h2 h3 hsrc hm hse hu
    have hgives := gives_dualOperation hs hd hc he (fits2_of h1 h2 h3) hsrc hm
      (fun hfte => (hse hfte).imp dualOut_se dualOut_se) hu
    rw [State.dualStarted, State.pends_dualOut, State.pends_dualOut] at hgives
    exact hgives
  exact ⟨h rfl rfl rfl, h rfl rfl rfl, h rfl rfl rfl, h rfl rfl rfl, h rfl rfl rfl, h rfl rfl rfl, h rfl rfl rfl,
    h rfl rfl rfl⟩

/-! ## m12apm.ss (R323, R332) -/

/-- A single-precision entry is delivered to any register: f0 and f1 discard it in the write as in the delivery. -/
theorem deliver_val_single (s : State) (dest : Reg) (v : DWord) :
    deliver s (.val v .s) dest .s = .ok (s.fwrite dest .s v) := by
  by_cases h : dest = 0 ∨ dest = 1
  · rw [deliver_zero h]
    rcases h with rfl | rfl <;> rfl
  · exact deliver_val h v .s

/-- A write of a single-precision result and an advance of both pipelines with its note commute. -/
theorem State.fwrite_single_pipes_comm (s : State) (dest : Reg) (v : DWord) (a : Pipe3 Entry) (m : MPipe) (b : Bool) :
    { s.fwrite dest .s v with aPipe := a, mPipe := m, fpPending := b } =
      { s with aPipe := a, mPipe := m, fpPending := b }.fwrite dest .s v := by
  simp only [State.fwrite, State.setFS]
  split <;> rfl

theorem dualSourceOk_of {path : DataPath} {p : Prec} {src1 dest : Reg}
    (h : dest = 0 ∨ regsOverlap p src1 p dest = false) : dualSourceOk path p src1 dest = true := by
  rcases h with h | h <;> simp [dualSourceOk, h]

/-- Settles O55: data path 1001 loads neither T nor K, and with FTE clear nothing is noted. -/
theorem m12apmMultipliesSourcesAndAddsResults : Obligations.M12apmMultipliesSourcesAndAddsResults := by
  intro src1 src2 dest d s a1 a2 m1 m2 x y hs haPipe hmPipe hne hfte
  have hready : s.mPipe.ready Prec.s.threeStage = some (.three m1 m2 (.val y .s)) := by
    rw [hmPipe]
    rfl
  have hdeliver : deliver s s.aPipe.q3 dest .s = .ok (s.fwrite dest .s x) := by
    rw [haPipe]
    exact deliver_val_single s dest x
  have hadder : s.aPipe.push (dualEntry .s (dualAnswer fpAdd s.fpEnv .s (s.aPipe.q3.operand .s) (.val y .s))) =
      ⟨.val (fpAdd .s .s s.fpEnv x y).value .s, a1, a2⟩ := by
    rw [haPipe]
    rfl
  have hgives := gives_dualOperation (i := .pfamSs 9 d src1 src2 dest) (toMul := false) hs rfl rfl rfl rfl
    (dualSourceOk_of (hne.imp_right regsOverlap_single)) hready (by simp [hfte]) hdeliver
  rw [State.dualStarted, State.pends_of_fte_clear hfte, State.pends_of_fte_clear hfte, Bool.or_self] at hgives
  rw [← State.fwrite_single_pipes_comm s dest x _ _ s.fpPending, ← hadder]
  exact hgives

/-! ## Mixed precision (R330, R460) -/

/-- An instruction with a D-bit that the spec gives no effect is refused in the mode it may run in. -/
theorem refused_dbit {i : Instr} {s : State} {d : Bool} {r : Refusal} (hmode : s.mode = .single)
    (harmed : s.armed = true → d = true) (hd : dbit i = some d) (hc : isControl i = false)
    (he : effect i s = .refuse r) : exec i s = .refused r := by
  have hexit (ha : s.armed = true) : dbit i ≠ some false := by
    rw [hd, harmed ha]
    nofun
  exact exec_of_refuse hmode hexit (fun h => absurd (hc.symm.trans h) Bool.false_ne_true) he

/-- Settles O56: no operand is read. -/
theorem mixedPrecisionDualOperationsAreRefused : Obligations.MixedPrecisionDualOperationsAreRefused :=
  fun _ _ _ _ _ _ hmode harmed => ⟨refused_dbit hmode harmed rfl rfl rfl, refused_dbit hmode harmed rfl rfl rfl,
    refused_dbit hmode harmed rfl rfl rfl, refused_dbit hmode harmed rfl rfl rfl⟩

end Sys2Proof.Machine
end

section
/-!
PROOFS. The graphics unit: sums and differences modulo the width, the MERGE updates bit by bit, the Z-buffer checks
field by field, and how each form ends, scalar or through the graphics pipeline (O57, O58, O59, O60).
-/
namespace Sys2Proof.Machine

/-! ## Register numbers (R33, R350) -/

theorem graphicsFits_of {p : Prec} {src1 src2 dest : Reg} (h1 : p.fits src1 = true) (h2 : p.fits src2 = true)
    (h3 : p.fits dest = true) : graphicsFits p src1 src2 dest = true := by rw [graphicsFits, h1, h2, h3]; rfl

theorem graphicsFits_double {src1 src2 dest : Reg} (h1 : src1.toNat % 2 = 0) (h2 : src2.toNat % 2 = 0)
    (h3 : dest.toNat % 2 = 0) : graphicsFits .d src1 src2 dest = true :=
  graphicsFits_of (Prec.fits_d h1) (Prec.fits_d h2) (Prec.fits_d h3)

/-- Restriction e, one source at a time. -/
theorem graphicsSourceOk_of {p : Prec} {src1 src2 dest : Reg} (h1 : dest = 0 ∨ regsOverlap p src1 p dest = false)
    (h2 : dest = 0 ∨ regsOverlap p src2 p dest = false) : graphicsSourceOk p src1 src2 dest = true := by
  rcases or_and_left.2 ⟨h1, h2⟩ with h | ⟨h1, h2⟩
  · simp [graphicsSourceOk, h]
  · simp [graphicsSourceOk, h1, h2]

theorem graphicsSourceOk_single {src1 src2 dest : Reg} (h1 : dest = 0 ∨ src1 ≠ dest) (h2 : dest = 0 ∨ src2 ≠ dest) :
    graphicsSourceOk .s src1 src2 dest = true :=
  graphicsSourceOk_of (h1.imp_right regsOverlap_single) (h2.imp_right regsOverlap_single)

theorem graphicsSourceOk_double {src1 src2 dest : Reg} (hsrc1 : src1.toNat % 2 = 0) (hsrc2 : src2.toNat % 2 = 0)
    (hdest : dest.toNat % 2 = 0) (h : dest = 0 ∨ src1 ≠ dest ∧ src2 ≠ dest) :
    graphicsSourceOk .d src1 src2 dest = true :=
  graphicsSourceOk_of (h.imp_right fun hne => regsOverlap_double hsrc1 hdest hne.1)
    (h.imp_right fun hne => regsOverlap_double hsrc2 hdest hne.2)

/-- No destination but f0 is f0, so restriction e never refuses f0 as a source. -/
theorem eq_f0_or_f0_ne (dest : Reg) : dest = 0 ∨ (0 : Reg) ≠ dest :=
  (Decidable.em (dest = 0)).imp_right fun h => Ne.symm h

/-! ## How a graphics instruction ends (R350) -/

/-- The state with MERGE and PM replaced, which a Z-buffer check hands to its ending. -/
def State.marked (s : State) (m : DWord) (pm : Byte) : State := { s with merge := m, psr := { s.psr with pm := pm } }

theorem State.setFS_marked (s : State) (m : DWord) (pm : Byte) (i : Reg) (v : Word) :
    (s.marked m pm).setFS i v = (s.setFS i v).marked m pm := by
  unfold State.setFS
  split <;> rfl

theorem State.fwrite_marked (s : State) (m : DWord) (pm : Byte) (i : Reg) (p : Prec) (v : DWord) :
    (s.marked m pm).fwrite i p v = (s.fwrite i p v).marked m pm := by
  cases p with
  | s => exact s.setFS_marked m pm i _
  | d => simp only [State.fwrite, State.setFD, State.setFS_marked]

/-- A delivery does not see MERGE and PM. -/
theorem deliver_marked {s u : State} {e : Entry} {dest : Reg} {p : Prec} (h : deliver s e dest p = .ok u) (m : DWord)
    (pm : Byte) : deliver (s.marked m pm) e dest p = .ok (u.marked m pm) := by
  by_cases hz : dest = 0 ∨ dest = 1
  · rw [deliver_zero hz] at h ⊢
    cases h
    rfl
  cases e with
  | undef =>
    rw [deliver_undef hz] at h ⊢
    cases h
    exact congrArg Except.ok (s.tick.fwrite_marked m pm dest p _)
  | val v q =>
    by_cases hq : q = p
    · subst hq
      rw [deliver_val hz] at h ⊢
      cases h
      exact congrArg Except.ok (s.fwrite_marked m pm dest q v)
    · rw [deliver_val_of_ne hz hq] at h
      cases h

/-- A form that ends by a delivery enters its value. -/
theorem graphicsPiped_ok {t u : State} {p : Prec} {dest : Reg} (hu : deliver t t.gPipe dest p = .ok u) (v : DWord) :
    graphicsPiped p dest v t = .ok { u with gPipe := .val v p } .seq := by
  rw [graphicsPiped, hu]

/-- With MERGE and PM replaced it delivers as it would without that. -/
theorem graphicsPiped_marked {s u : State} {p : Prec} {dest : Reg} (hu : deliver s s.gPipe dest p = .ok u) (v m : DWord)
    (pm : Byte) :
    graphicsPiped p dest v (s.marked m pm) =
      .ok { u with gPipe := .val v p, merge := m, psr := { s.psr with pm := pm } } .seq := by
  obtain ⟨hpsr, _, _⟩ := deliver_keeps hu
  rw [← hpsr]
  exact graphicsPiped_ok (deliver_marked hu m pm) v

/-- The same for MERGE alone, as faddp, faddz and form replace it: PM is written back as it was. -/
theorem graphicsPiped_setMerge {s u : State} {p : Prec} {dest : Reg} (hu : deliver s s.gPipe dest p = .ok u)
    (v m : DWord) :
    graphicsPiped p dest v (s.setMerge m) = .ok { u with gPipe := .val v p, merge := m } .seq := by
  obtain ⟨hpsr, _, _⟩ := deliver_keeps hu
  have h := graphicsPiped_marked hu v m s.psr.pm
  rw [← hpsr] at h
  rw [← h, hpsr]
  rfl

/-! ## Sums and differences (R341, R342, R350 to R352) -/

section
variable {w : Nat} (a b : BitVec w)

theorem ofInt_toNat_add_toNat : BitVec.ofInt w (a.toNat + b.toNat) = a + b := by
  rw [BitVec.ofInt_add, BitVec.ofInt_natCast, BitVec.ofInt_natCast, BitVec.ofNat_toNat, BitVec.ofNat_toNat,
    BitVec.setWidth_eq, BitVec.setWidth_eq]

theorem ofInt_toNat_sub_toNat : BitVec.ofInt w (a.toNat - b.toNat) = a - b := by
  rw [Int.sub_eq_add_neg, BitVec.ofInt_add, BitVec.ofInt_neg, BitVec.ofInt_natCast, BitVec.ofInt_natCast,
    BitVec.ofNat_toNat, BitVec.ofNat_toNat, BitVec.setWidth_eq, BitVec.setWidth_eq, BitVec.sub_eq_add_neg]

end

section
variable (s : State) (src1 src2 : Reg)

theorem longInt_add_single : longInt (· + ·) .s src1 src2 s =
    (BitVec.ofInt 32 ((s.FS src1).toNat + (s.FS src2).toNat)).setWidth 64 := by
  have hcut : ((s.FS src1).setWidth 64 + (s.FS src2).setWidth 64).setWidth 32 = s.FS src1 + s.FS src2 := by bv_omega
  rw [ofInt_toNat_add_toNat, ← hcut]
  rfl

theorem longInt_sub_single : longInt (· - ·) .s src1 src2 s =
    (BitVec.ofInt 32 ((s.FS src1).toNat - (s.FS src2).toNat)).setWidth 64 := by
  have hcut : ((s.FS src1).setWidth 64 - (s.FS src2).setWidth 64).setWidth 32 = s.FS src1 - s.FS src2 := by bv_omega
  rw [ofInt_toNat_sub_toNat, ← hcut]
  rfl

theorem longInt_add_double : longInt (· + ·) .d src1 src2 s =
    BitVec.ofInt 64 ((s.FD src1).toNat + (s.FD src2).toNat) := (ofInt_toNat_add_toNat _ _).symm

theorem longInt_sub_double : longInt (· - ·) .d src1 src2 s =
    BitVec.ofInt 64 ((s.FD src1).toNat - (s.FD src2).toNat) := (ofInt_toNat_sub_toNat _ _).symm

/-- The sum with f0 that stands for a move (R273, R304). -/
theorem longInt_add_f0_single : longInt (· + ·) .s src1 0 s = (BitVec.ofInt 32 (s.FS src1).toNat).setWidth 64 := by
  have hzero : (s.FS 0).toNat = 0 := rfl
  rw [longInt_add_single, hzero, Int.natCast_zero, Int.add_zero]

theorem longInt_add_f0_double : longInt (· + ·) .d src1 0 s = s.FD src1 := by
  have hzero : (s.FD 0).toNat = 0 := by simp [State.FD, State.FS, isFZero]
  rw [longInt_add_double, hzero, Int.natCast_zero, Int.add_zero, BitVec.ofInt_natCast, BitVec.ofNat_toNat,
    BitVec.setWidth_eq]

end

/-- Settles O57: a move is the sum with f0, which is never a source that restriction e refuses. -/
theorem graphicsAddsAreModular : Obligations.GraphicsAddsAreModular := by
  intro src1 src2 dest d s hs writes enters long a b
  have scalar {i f p src2 v} (hd : dbit i = some d) (hc : isControl i = false)
      (he : effect i s = longScalar f p src1 src2 dest s) (hfit : graphicsFits p src1 src2 dest = true)
      (hv : longInt f p src1 src2 s = v) : writes i p v := by
    rw [← hv]
    exact gives_reportResult hs hd hc hfit he rfl
  have piped {i f p src2 v} (hd : dbit i = some d) (hc : isControl i = false)
      (he : effect i s = longPiped f p src1 src2 dest s) (hfit : graphicsFits p src1 src2 dest = true)
      (hok : graphicsSourceOk p src1 src2 dest = true) (hv : longInt f p src1 src2 s = v) : enters i p v := by
    intro u hu
    rw [← hv]
    rw [longPiped, demand_of _ _ _ hfit] at he
    exact gives_reportResult hs hd hc hok he (graphicsPiped_ok hu _)
  have hadd := longInt_add_single s src1 src2
  have hsub := longInt_sub_single s src1 src2
  have hmov := longInt_add_f0_single s src1
  refine ⟨scalar rfl rfl rfl rfl hadd, scalar rfl rfl rfl rfl hsub, scalar rfl rfl rfl rfl hmov,
    fun hne1 => ⟨?movSingle, fun hne2 => ?single⟩, fun h1 hdest => ⟨?movDouble, fun hne1 => ?pmovDouble,
      fun h2 => ⟨?addDouble, ?subDouble, fun hne => ?double⟩⟩⟩
  case movSingle => exact piped rfl rfl rfl rfl (graphicsSourceOk_single hne1 (eq_f0_or_f0_ne dest)) hmov
  case single =>
    have hok := graphicsSourceOk_single hne1 hne2
    exact ⟨piped rfl rfl rfl rfl hok hadd, piped rfl rfl rfl rfl hok hsub⟩
  all_goals
    have hfit0 : graphicsFits .d src1 0 dest = true := graphicsFits_double h1 rfl hdest
  case movDouble => exact scalar rfl rfl rfl hfit0 (longInt_add_f0_double s src1)
  case pmovDouble =>
    have hok := graphicsSourceOk_double h1 rfl hdest (or_and_left.2 ⟨hne1, eq_f0_or_f0_ne dest⟩)
    exact piped rfl rfl rfl hfit0 hok (longInt_add_f0_double s src1)
  all_goals
    have hfit := graphicsFits_double h1 h2 hdest
  case addDouble => exact scalar rfl rfl rfl hfit (longInt_add_double s src1 src2)
  case subDouble => exact scalar rfl rfl rfl hfit (longInt_sub_double s src1 src2)
  case double =>
    have hok := graphicsSourceOk_double h1 h2 hdest hne
    exact ⟨piped rfl rfl rfl hfit hok (longInt_add_double s src1 src2),
      piped rfl rfl rfl hfit hok (longInt_sub_double s src1 src2)⟩

/-! ## MERGE (R343 to R346, R353 to R355) -/

/-- The bits of a mask come from the one value, the others from the shifted other. -/
theorem getLsbD_shift_blend (m r mask : DWord) (c : Nat) {k : Nat} (hk : k < 64) :
    (((m >>> c) &&& ~~~mask) ||| (r &&& mask)).getLsbD k =
      if mask.getLsbD k then r.getLsbD k else m.getLsbD (k + c) := by
  simp only [BitVec.getLsbD_or, BitVec.getLsbD_and, BitVec.getLsbD_not, BitVec.getLsbD_ushiftRight, hk, decide_true,
    Bool.true_and, Nat.add_comm c k]
  cases mask.getLsbD k <;> simp

/-- MERGE after faddp: the high bits of each field of the sum, the other bits shifted down. -/
def MergesPixels (field count : Nat) (m r v : DWord) : Prop :=
  ∀ k < 64, v.getLsbD k = if field ≤ k % field + count then r.getLsbD k else m.getLsbD (k + count)

theorem mergesPixels_blend {field count : Nat} {mask : DWord}
    (hmask : ∀ k < 64, mask.getLsbD k = decide (field ≤ k % field + count)) (m r : DWord) :
    MergesPixels field count m r (((m >>> count) &&& ~~~mask) ||| (r &&& mask)) := by
  intro k hk
  rw [getLsbD_shift_blend m r mask count hk, hmask k hk]
  simp only [decide_eq_true_eq]

/-- Every pixel size but the reserved one has an update, by its field width and shift count (R344). -/
theorem mergePixels_ok (m r : DWord) {ps : BitVec 2} (h : ps ≠ 3) : ∃ v, mergePixels m r ps = some v ∧
    MergesPixels (if ps = 2 then 32 else 16) (if ps = 1 then 6 else 8) m r v := by
  obtain rfl | rfl | rfl : ps = 0 ∨ ps = 1 ∨ ps = 2 := by bv_omega
  · exact ⟨_, rfl, mergesPixels_blend (by decide) m r⟩
  · exact ⟨_, rfl, mergesPixels_blend (by decide) m r⟩
  · exact ⟨_, rfl, mergesPixels_blend (by decide) m r⟩

/-- MERGE after faddz (R345). -/
theorem mergeZ_getLsbD (m r : DWord) : ∀ k < 64,
    (mergeZ m r).getLsbD k = if 16 ≤ k % 32 then r.getLsbD k else m.getLsbD (k + 16) := by
  intro k hk
  have hmask : ∀ k < 64, (0xFFFF0000FFFF0000#64).getLsbD k = decide (16 ≤ k % 32) := by decide
  have hblend := getLsbD_shift_blend m r 0xFFFF0000FFFF0000#64 16 hk
  rw [hmask k hk] at hblend
  simp only [decide_eq_true_eq] at hblend
  exact hblend

/-- faddp and pfaddp at every pixel size but the reserved one, whichever way they end. -/
theorem addPixels_eq {s : State} (h : s.psr.ps ≠ 3) (src1 src2 dest : Reg) :
    ∃ m, MergesPixels (if s.psr.ps = 2 then 32 else 16) (if s.psr.ps = 1 then 6 else 8) s.merge
        (s.FD src1 + s.FD src2) m ∧
      ∀ ending, addPixels ending src1 src2 dest s = ending .d dest (s.FD src1 + s.FD src2) (s.setMerge m) := by
  obtain ⟨m, hm, hbits⟩ := mergePixels_ok s.merge (s.FD src1 + s.FD src2) h
  refine ⟨m, hbits, fun ending => ?_⟩
  rw [addPixels, hm]

/-- Settles O58: both endings get the same sum and the same MERGE. -/
theorem pixelAddsShiftAndLoadMerge : Obligations.PixelAddsShiftAndLoadMerge := by
  intro src1 src2 dest d s u hs h1 h2 hdest hps sum field count
  have hfit := graphicsFits_double h1 h2 hdest
  have hsum : sum = s.FD src1 + s.FD src2 := (BitVec.add_def ..).symm
  obtain ⟨m, hbits, hend⟩ := addPixels_eq hps src1 src2 dest
  rw [hsum]
  exact ⟨m, hbits, gives_reportResult hs rfl rfl hfit rfl (hend _), fun hne hu =>
    gives_reportResult hs rfl rfl (graphicsSourceOk_double h1 h2 hdest hne) (demand_of _ _ _ hfit)
      ((hend _).trans (graphicsPiped_setMerge hu _ m))⟩

/-- Settles O59: the endings of faddz and of form, MERGE replaced before them. -/
theorem zAddsAndFormUseMerge : Obligations.ZAddsAndFormUseMerge := by
  intro src1 src2 dest d s u hs h1 hdest
  refine ⟨?addz, ?form⟩
  case addz =>
    intro h2 sum
    have hfit := graphicsFits_double h1 h2 hdest
    have hsum : sum = s.FD src1 + s.FD src2 := (BitVec.add_def ..).symm
    rw [hsum]
    exact ⟨_, mergeZ_getLsbD s.merge _, gives_reportResult hs rfl rfl hfit rfl rfl, fun hne hu =>
      gives_reportResult hs rfl rfl (graphicsSourceOk_double h1 h2 hdest hne) (demand_of _ _ _ hfit)
        (graphicsPiped_setMerge hu _ _)⟩
  case form =>
    have hfit := graphicsFits_double h1 h1 hdest
    exact ⟨gives_reportResult hs rfl rfl hfit rfl rfl, fun hne hu =>
      gives_reportResult hs rfl rfl (graphicsSourceOk_double h1 h1 hdest (hne.imp_right fun h => ⟨h, h⟩))
        (demand_of _ _ _ hfit) (graphicsPiped_setMerge hu _ _)⟩

/-! ## The Z-buffer checks (R347 to R349, R356, R357) -/

theorem zField_min_lt (w i : Nat) (a b : DWord) : min (zField w i a) (zField w i b) < 2 ^ w :=
  Nat.lt_of_le_of_lt (Nat.min_le_left ..) (Nat.mod_lt _ (Nat.two_pow_pos w))

/-- Field `j` of the result is the smaller of the two fields. -/
theorem zMin_field (w : Nat) (a b : DWord) {j n : Nat} (hj : j < n) (i : Nat) :
    zMin w a b i n / 2 ^ (w * j) % 2 ^ w = min (zField w (i + j) a) (zField w (i + j) b) := by
  induction n generalizing i j with
  | zero => omega
  | succ n ih =>
    rw [zMin]
    cases j with
    | zero =>
      rw [Nat.mul_zero, Nat.pow_zero, Nat.div_one, Nat.add_mul_mod_self_left, Nat.mod_eq_of_lt (zField_min_lt w i a b),
        Nat.add_zero]
    | succ j =>
      rw [Nat.mul_succ, Nat.add_comm (w * j), Nat.pow_add, ← Nat.div_div_eq_div_mul,
        Nat.add_mul_div_left _ _ (Nat.two_pow_pos w), Nat.div_eq_of_lt (zField_min_lt w i a b), Nat.zero_add,
        ih (Nat.lt_of_succ_lt_succ hj), Nat.add_right_comm, Nat.add_assoc]

theorem zMin_lt (w : Nat) (a b : DWord) (n i : Nat) : zMin w a b i n < 2 ^ (w * n) := by
  induction n generalizing i with
  | zero => exact Nat.one_pos
  | succ n ih =>
    have hlow := zField_min_lt w i a b
    calc zMin w a b i (n + 1) < 2 ^ w * (zMin w a b (i + 1) n + 1) := by rw [zMin, Nat.mul_succ]; omega
      _ ≤ 2 ^ w * 2 ^ (w * n) := Nat.mul_le_mul_left _ (ih (i + 1))
      _ = 2 ^ (w * (n + 1)) := by rw [← Nat.pow_add, Nat.mul_succ, Nat.add_comm]

/-- The fields of the result fit the 64 bits, so none is cut. -/
theorem toNat_ofNat_zMin (w : Nat) (a b : DWord) :
    (BitVec.ofNat 64 (zMin w a b 0 (64 / w))).toNat = zMin w a b 0 (64 / w) := by
  rw [BitVec.toNat_ofNat, Nat.mod_eq_of_lt]
  exact Nat.lt_of_lt_of_le (zMin_lt w a b _ 0) (Nat.pow_le_pow_right Nat.two_pos (Nat.mul_div_le 64 w))

/-- Comparison bit `j` says whether the second field is not larger. -/
theorem testBit_zBits (w : Nat) (a b : DWord) {j n : Nat} (hj : j < n) (i : Nat) :
    (zBits w a b i n).testBit j = decide (zField w (i + j) b ≤ zField w (i + j) a) := by
  induction n generalizing i j with
  | zero => omega
  | succ n ih =>
    rw [zBits]
    cases j with
    | zero =>
      rw [Nat.testBit_zero, decide_eq_decide, Nat.add_zero i]
      split <;> omega
    | succ j =>
      have hhalf : ((if zField w i b ≤ zField w i a then 1 else 0) + 2 * zBits w a b (i + 1) n) / 2 =
          zBits w a b (i + 1) n := by
        split <;> omega
      rw [Nat.testBit_succ, hhalf, ih (Nat.lt_of_succ_lt_succ hj), Nat.add_right_comm, Nat.add_assoc]

/-- PM after a check: the old bits shifted down, a comparison bit for each field on top (R349). -/
theorem zMask_getLsbD (w : Nat) (pm : Byte) (a b : DWord) : ∀ k < 8, (zMask w pm a b).getLsbD k =
    if k < 8 - 64 / w then pm.getLsbD (k + 64 / w)
    else decide (zField w (k - (8 - 64 / w)) b ≤ zField w (k - (8 - 64 / w)) a) := by
  intro k hk
  rw [zMask, BitVec.getLsbD_or, BitVec.getLsbD_ushiftRight, BitVec.getLsbD_ofNat, Nat.testBit_mul_two_pow,
    Nat.add_comm (64 / w) k]
  by_cases hlow : k < 8 - 64 / w
  · simp [hlow, Nat.not_le.2 hlow]
  · have hfield : k - (8 - 64 / w) < 64 / w := by omega
    rw [if_neg hlow, BitVec.getLsbD_of_ge _ _ (by omega), testBit_zBits w a b hfield 0, Nat.zero_add]
    simp [hk, Nat.not_lt.1 hlow]

/-- Settles O60: the result and PM of a check with fields of one width, then its two endings. -/
theorem zChecksTakeMinimaAndMarkPm : Obligations.ZChecksTakeMinimaAndMarkPm := by
  intro src1 src2 dest d s u hs h1 h2 hdest checks
  have hfit := graphicsFits_double h1 h2 hdest
  have h {scalar piped w} (hd : dbit scalar = some d) (hc : isControl scalar = false)
      (he : effect scalar s = demand (graphicsFits .d src1 src2 dest) .registerAlignment
        (reportResult s (zCheck graphicsScalar w src1 src2 dest s)))
      (hd' : dbit piped = some d) (hc' : isControl piped = false)
      (he' : effect piped s = demand (graphicsFits .d src1 src2 dest) .registerAlignment
        (reportResult s (zCheck graphicsPiped w src1 src2 dest s))) : checks scalar piped w := by
    refine ⟨_, _, fun i hi => ?_, zMask_getLsbD w s.psr.pm (s.FD src1) (s.FD src2),
      gives_reportResult hs hd hc hfit he rfl, fun hu =>
      gives_reportResult hs hd' hc' hfit he' (graphicsPiped_marked hu _ 0 _)⟩
    rw [toNat_ofNat_zMin, zMin_field w _ _ hi 0, Nat.zero_add]
    rfl
  exact ⟨h rfl rfl rfl rfl rfl rfl, h rfl rfl rfl rfl rfl rfl⟩

end Sys2Proof.Machine
end

section
/-!
PROOFS. Reset, trap entry, and what comes before an instruction: the end of the run, an interrupt, and the fetch of a
word or of a pair (O1, O2, O14, O15, O19).
-/
namespace Sys2Proof.Machine

/-! ## Reset (R451) -/

/-- Settles O1: each value is a field of the reset state. -/
theorem resetStateIsAsStated : Obligations.ResetStateIsAsStated := by
  unfold Obligations.ResetStateIsAsStated
  dsimp only
  and_intros <;> rfl

/-- Settles O2: memory is empty, pc is the reset vector with no transfer pending, and no control bit is set. -/
theorem resetMeetsTheInvariants : Obligations.ResetMeetsTheInvariants := by
  have hmem : MemoryCanonical State.reset := rfl
  have hpc : PcAligned State.reset := ⟨rfl, fun _ h => nomatch h⟩
  have hpart : InModelledPart State.reset := ⟨rfl, rfl, rfl, rfl, rfl⟩
  exact ⟨hmem, hpc, hpart⟩

/-! ## Trap entry (R403, R405) -/

/-- A trap is refused inside a locked sequence (R403). -/
theorem State.takeTrap_locked {s : State} (h : s.dirbase.bl = true) (c : Cause) (a : Word) (knf : Bool) :
    s.takeTrap c a knf = .refused .trapInLockedSequence := if_pos h

/-- Settles O19: trap entry writes the trap bit of its cause and the notes beside what it saves. -/
theorem trapEntrySavesAndVectors : Obligations.TrapEntrySavesAndVectors := by
  intro s c a knf
  have trapBit (b : Bool) (c' : Cause) : (b || decide (c = c')) = true ↔ b = true ∨ c = c' := by
    rw [Bool.or_eq_true, decide_eq_true_iff]
  refine ⟨fun hbl => s.takeTrap_locked hbl c a knf, fun hbl => ?taken⟩
  case taken =>
    refine ⟨s.enterTrap c a knf, s.takeTrap_of c a knf hbl, rfl, ⟨fun x => ?slots, rfl⟩, rfl, trapBit _ _, trapBit _ _,
      trapBit _ _, trapBit _ _, trapBit _ _⟩
    case slots => exact (mem_slotsAfterTrap _ a x s.slotFirs).trans (or_comm.trans (or_congr_right and_comm))

/-! ## The fetch of a word (R76, R80, R130) -/

section
variable {s : State} {a : Word}

/-- A fetch looks at the same bytes as a data access of four bytes. -/
theorem State.fetchOk_iff (ha : a.toNat % 4 = 0) : s.fetchOk a = true ↔ s.accessible a 4 := by
  have h : s.dataOk a 4 = s.fetchOk a := Bool.and_eq_right_iff_imp.2 fun _ => decide_eq_true ha
  rw [accessible_iff, h]

theorem State.decodeBytes_fetchBytes (s : State) (a : Word) : decodeBytes (s.fetchBytes a) = decode (s.wordAt a) := rfl

theorem State.fetch_inaccessible (ha : a.toNat % 4 = 0) (h : ¬s.accessible a 4) : s.fetch a = .accessFault := by
  have hbad : s.fetchOk a = false := Bool.eq_false_iff.2 (mt (State.fetchOk_iff ha).1 h)
  rw [State.fetch, hbad]
  rfl

section
variable (h : s.accessible a 4)
include h

theorem State.fetchOk_of_accessible : s.fetchOk a = true := (State.fetchOk_iff h.1).2 h

theorem State.fetch_stored (hs : a.toNat ∈ s.stored) : s.fetch a = .refused .fetchOfStored := by
  simp [State.fetch, State.fetchOk_of_accessible h, hs]

theorem State.fetch_reserved (hs : a.toNat ∉ s.stored) {why : Reserved} (hw : decode (s.wordAt a) = .error why) :
    s.fetch a = .refused (.reservedEncoding why (s.wordAt a)) := by
  rw [← fetchBytes_word]
  simp [State.fetch, State.fetchOk_of_accessible h, hs, State.decodeBytes_fetchBytes, hw]

theorem State.fetch_decoded (hs : a.toNat ∉ s.stored) {i : Instr} (hw : decode (s.wordAt a) = .ok i) :
    s.fetch a = .instr i := by
  simp [State.fetch, State.fetchOk_of_accessible h, hs, State.decodeBytes_fetchBytes, hw]

theorem State.fetch_ne_accessFault : s.fetch a ≠ .accessFault := by
  by_cases hs : a.toNat ∈ s.stored
  · simp [State.fetch_stored h hs]
  · cases hw : decode (s.wordAt a)
    case error => simp [State.fetch_reserved h hs hw]
    case ok => simp [State.fetch_decoded h hs hw]

end

end

/-! ## The step at a fetched word -/

section
variable {s : State}

theorem State.atHalt_iff : s.atHalt = true ↔ s.haltPc = some s.pc ∧ s.delay = none ∧ s.mode = .single := by
  simp [State.atHalt, and_assoc]

theorem State.interrupted_iff : s.interrupted = true ↔
    s.epsr.int = true ∧ s.psr.im = true ∧ s.dirbase.bl = false ∧ s.busLock = false := by
  simp [State.interrupted, and_assoc]

/-- Where neither the end of the run nor an interrupt comes first, the step fetches. -/
theorem FetchReady.step_eq (h : FetchReady s) : step s = stepSingle s := by
  obtain ⟨hmode, _, hhalt, hint⟩ := h
  have hh : s.atHalt = false := Bool.eq_false_iff.2 fun hs => by
    obtain ⟨hpc, hdelay, _⟩ := State.atHalt_iff.1 hs
    exact hhalt ⟨hpc, hdelay⟩
  have hi : s.interrupted = false := Bool.eq_false_iff.2 (mt State.interrupted_iff.1 hint)
  simp [step, hh, hi, hmode]

section
variable (h : FetchReady s)
include h

theorem step_of_accessFault (hf : s.fetch s.pc = .accessFault) : step s = s.takeTrap .iat s.pc false := by
  obtain ⟨_, hpc, _⟩ := id h
  simp [h.step_eq, stepSingle, hpc, hf]

theorem step_of_fetch_refused {r : Refusal} (hf : s.fetch s.pc = .refused r) : step s = .refused r := by
  obtain ⟨_, hpc, _⟩ := id h
  simp [h.step_eq, stepSingle, hpc, hf]

theorem step_of_instr {i : Instr} (hf : s.fetch s.pc = .instr i) : step s = exec i s := by
  obtain ⟨_, hpc, _⟩ := id h
  simp [h.step_eq, stepSingle, hpc, hf]

end

/-- Settles O14: the fetch of the word at pc brings its instruction. -/
theorem stepRunsTheDecodedInstruction : Obligations.StepRunsTheDecodedInstruction :=
  fun _ _ h ha hs hw => step_of_instr h (State.fetch_decoded ha hs hw)

/-! ## The step at a fetched pair (R381, R411) -/

section
variable (hm : s.mode = .dual) (hi : s.interrupted = false)
include hm hi

/-- In dual-instruction mode no run ends, and without an interrupt the step is a pair. -/
theorem step_dual : step s = stepPair s := by
  have hh : s.atHalt = false := by simp [State.atHalt, hm]
  simp [step, hh, hi, hm]

theorem step_misalignedPair (hpc : s.pc.toNat % 8 ≠ 0) : step s = .refused .misalignedPair := by
  rw [step_dual hm hi, stepPair, if_pos hpc]

section
variable (hpc : s.pc.toNat % 8 = 0)
include hpc

/-- A fetch that fails in either half comes before every refusal (R411). -/
theorem step_pair_accessFault (hf : s.fetch s.pc = .accessFault ∨ s.fetchCoreHalf (s.pc + 4) = .accessFault) :
    step s = s.takeTrap .iat s.pc false := by
  rw [step_dual hm hi, stepPair, if_neg (not_not_intro hpc)]
  rcases hf with hf | hf
  · rw [hf]
  · rw [hf]
    cases s.fetch s.pc <;> rfl

theorem step_pair_first_refused {r : Refusal} (hf : s.fetch s.pc = .refused r)
    (hc : s.fetchCoreHalf (s.pc + 4) ≠ .accessFault) : step s = .refused r := by
  rw [step_dual hm hi, stepPair, if_neg (not_not_intro hpc), hf]
  cases hx : s.fetchCoreHalf (s.pc + 4)
  case accessFault => exact absurd hx hc
  case instr | refused => rfl

theorem step_pair_second_refused {fi : Instr} {r : Refusal} (hf : s.fetch s.pc = .instr fi)
    (hc : s.fetchCoreHalf (s.pc + 4) = .refused r) : step s = .refused r := by
  rw [step_dual hm hi, stepPair, if_neg (not_not_intro hpc), hf, hc]

theorem step_pair {fi ci : Instr} (hf : s.fetch s.pc = .instr fi) (hc : s.fetchCoreHalf (s.pc + 4) = .instr ci) :
    step s = runPair fi ci s := by
  rw [step_dual hm hi, stepPair, if_neg (not_not_intro hpc), hf, hc]

end

end

/-- A core half that is not skipped is fetched; a skipped one is a nop (R385). -/
theorem State.fetchCoreHalf_fetched (h : s.skipCore = false) (a : Word) : s.fetchCoreHalf a = s.fetch a := by
  simp [State.fetchCoreHalf, h]

theorem State.fetchCoreHalf_skipped (h : s.skipCore = true) (a : Word) : s.fetchCoreHalf a = .instr .nop := by
  simp [State.fetchCoreHalf, h]

theorem State.CoreHalf.fetch_eq {ci : Instr} (h : s.CoreHalf ci) : s.fetchCoreHalf (s.pc + 4) = .instr ci := by
  rcases h with ⟨hskip, rfl⟩ | ⟨hskip, hf⟩
  · exact State.fetchCoreHalf_skipped hskip _
  · exact (State.fetchCoreHalf_fetched hskip _).trans hf

end

/-- Settles O15: the checks of a step, then of a fetch, in their order. -/
theorem eventsBeforeTheInstruction : Obligations.EventsBeforeTheInstruction := by
  intro s
  refine ⟨fun hpc hdelay hmode => ?halt, fun hhalt hint him hbl hlock => ?interrupt, fun h ha hbl => ?fault,
    fun h ha hs => step_of_fetch_refused h (State.fetch_stored ha hs),
    fun why h ha hs hw => step_of_fetch_refused h (State.fetch_reserved ha hs hw), fun hm hpc hi => ?pair⟩
  case halt => exact if_pos (State.atHalt_iff.2 ⟨hpc, hdelay, hmode⟩)
  case interrupt =>
    have hi : s.interrupted = true := State.interrupted_iff.2 ⟨hint, him, hbl, hlock⟩
    rw [step, if_neg (mt State.atHalt_iff.1 hhalt), if_pos hi, s.takeTrap_of _ _ _ hbl]
  case fault =>
    obtain ⟨_, hpc, _⟩ := id h
    rw [step_of_accessFault h (State.fetch_inaccessible hpc ha), s.takeTrap_of _ _ _ hbl]
  case pair =>
    intro second
    have hfirst : s.pc.toNat % 4 = 0 := by omega
    have hsecond : second.toNat % 4 = 0 := add_mod_four hfirst rfl
    refine ⟨fun hbad hbl => ?fault, fun ha hskip => ?words⟩
    case fault =>
      have hf : s.fetch s.pc = .accessFault ∨ s.fetchCoreHalf second = .accessFault := by
        rcases hbad with hbad | ⟨hskip, hbad⟩
        · exact .inl (State.fetch_inaccessible hfirst hbad)
        · exact .inr ((State.fetchCoreHalf_fetched hskip _).trans (State.fetch_inaccessible hsecond hbad))
      rw [step_pair_accessFault hm hi hpc hf, s.takeTrap_of _ _ _ hbl]
    case words =>
      have hcore : s.fetchCoreHalf second ≠ .accessFault := by
        rcases hskip with hskip | hok
        · rw [State.fetchCoreHalf_skipped hskip]
          nofun
        · unfold State.fetchCoreHalf
          split
          · nofun
          · exact State.fetch_ne_accessFault hok
      refine ⟨fun hs => step_pair_first_refused hm hi hpc (State.fetch_stored ha hs) hcore,
        fun why hs hw => step_pair_first_refused hm hi hpc (State.fetch_reserved ha hs hw) hcore,
        fun fi hs hw hns => ?second⟩
      case second =>
        have hok : s.accessible second 4 := hskip.resolve_left (by simp [hns])
        have hfi := State.fetch_decoded ha hs hw
        have hci := State.fetchCoreHalf_fetched hns second
        exact ⟨fun hs => step_pair_second_refused hm hi hpc hfi (hci.trans (State.fetch_stored hok hs)),
          fun why hs hw => step_pair_second_refused hm hi hpc hfi (hci.trans (State.fetch_reserved hok hs hw))⟩

end Sys2Proof.Machine
end

section
/-!
PROOFS. The end of a pair, case by case of its two halves, and the pair rule: both halves write, control goes on as the
core half says, and a trap in either half (O16).
-/
namespace Sys2Proof.Machine

/-! ## How a pair ends (R382, R384, R386, R387) -/

/-- The mode after a pair that the rules admit (R382). -/
def State.pairMode (s : State) (d : Bool) : ModeSel := ⟨if s.armed then .single else .dual, !s.armed && !d⟩

/-- How a pair ends that stands in no excursion, holds no transfer in a mode change and writes no element twice. -/
def pairOutcome (s : State) (m : ModeSel) (ef ec : Eff) : Host.Outcome State Fault Refusal :=
  match ef.staticRefusal, ec.staticRefusal with
  | some r, _ => .refused r
  | none, some r => .refused r
  | none, none =>
    match ef, ec with
    | .refuse r, _ => .refused r
    | .trap c sf, _ => sf.takeTrap c s.pc false
    | .ok _ _, .refuse r => .refused r
    | .ok sf _, .trap c sc => pairCoreTrap s sf sc c
    | .ok sf _, .ok sc c => .next (s.complete (s.overlay sf sc) m c)

@[simp] theorem Eff.staticRefusal_ok (t : State) (c : Ctl) : (Eff.ok t c).staticRefusal = none := rfl

@[simp] theorem Eff.staticRefusal_trap (c : Cause) (t : State) : (Eff.trap c t).staticRefusal = none := rfl

theorem Eff.staticRefusal_refuse (r : Refusal) :
    (Eff.refuse r).staticRefusal = if r.static then some r else none := rfl

section
variable (s : State) (m : ModeSel) (ef ec : Eff)

/-- A refusal of the first word comes before all else in the pair (R411). -/
theorem pairOutcome_fp_static {r : Refusal} (hr : r.static = true) :
    pairOutcome s m (.refuse r) ec = .refused r := by
  simp [pairOutcome, Eff.staticRefusal_refuse, hr]

theorem pairOutcome_fp_refused (r : Refusal) (h : ec.staticRefusal = none) :
    pairOutcome s m (.refuse r) ec = .refused r := by
  cases hr : r.static
  case true => exact pairOutcome_fp_static s m ec hr
  case false => simp [pairOutcome, Eff.staticRefusal_refuse, hr, h]

theorem pairOutcome_core_static (h : ef.staticRefusal = none) {r : Refusal} (hr : r.static = true) :
    pairOutcome s m ef (.refuse r) = .refused r := by
  simp [pairOutcome, Eff.staticRefusal_refuse, h, hr]

theorem pairOutcome_core_refused (t : State) (c : Ctl) (r : Refusal) :
    pairOutcome s m (.ok t c) (.refuse r) = .refused r := by
  cases hr : r.static
  case true => exact pairOutcome_core_static s m _ rfl hr
  case false => simp [pairOutcome, Eff.staticRefusal_refuse, hr]

theorem pairOutcome_fp_trap (c : Cause) (t : State) (h : ec.staticRefusal = none) :
    pairOutcome s m (.trap c t) ec = t.takeTrap c s.pc false := by
  simp [pairOutcome, h]

theorem pairOutcome_core_trap (sf sc : State) (c : Cause) (k : Ctl) :
    pairOutcome s m (.ok sf k) (.trap c sc) = pairCoreTrap s sf sc c := rfl

theorem pairOutcome_ok (sf sc : State) (k c : Ctl) :
    pairOutcome s m (.ok sf k) (.ok sc c) = .next (s.complete (s.overlay sf sc) m c) := rfl

end

section
variable {s : State} {d control conflict : Bool} {ef ec : Eff} {core : State → Eff}

theorem retirePair_excursion (ha : s.armed = true) (hd : d = true) :
    retirePair d control conflict s ef core = .refused .modeExcursion := by
  subst hd
  simp [retirePair, ha, modeNext]

variable (hd : s.armed = true → d = false)
include hd

/-- A mode change under way asks for D = 0 (R382). -/
theorem modeNext_dual : modeNext .dual s.armed (some d) = some (s.pairMode d) := by
  unfold State.pairMode
  cases ha : s.armed
  case false => cases d <;> rfl
  case true =>
    rw [hd ha]
    rfl

theorem retirePair_transition (hc : control = true) (hdbit : d = false) :
    retirePair d control conflict s ef core = .refused .controlInTransition := by
  rw [retirePair, modeNext_dual hd, hc, hdbit]
  simp

variable (hc : control = true → d = true)
include hc

/-- A transfer in the core half stands outside every mode change (R386). -/
theorem control_outside_transition : (control && (s.armed || !d)) = false := by
  cases hcontrol : control
  case false => rfl
  case true =>
    have hone : d = true := hc hcontrol
    have harmed : s.armed = false := Bool.eq_false_iff.2 fun ha => Bool.false_ne_true ((hd ha).symm.trans hone)
    rw [harmed, hone]
    rfl

theorem retirePair_conflict : retirePair d control true s ef core = .refused .pairConflict := by
  simp [retirePair, modeNext_dual hd, control_outside_transition hd hc]

theorem retirePair_admitted (he : core { s with free := ef.freeAfter s } = ec) :
    retirePair d control false s ef core = pairOutcome s (s.pairMode d) ef ec := by
  subst he
  rw [retirePair, modeNext_dual hd, control_outside_transition hd hc]
  cases ef
  case ok => cases core _ <;> rfl
  case trap => rfl
  case refuse => rfl

end

/-! ## The pair at pc -/

/-- What `pairConflict` decides (R384). -/
theorem pairConflict_iff (s : State) (fi ci : Instr) : pairConflict s fi ci = true ↔ WritesOneElement s fi ci := by
  simp [pairConflict, WritesOneElement, isFZero, and_comm, and_left_comm, or_assoc]

theorem firstHalf_eq (i : Instr) : firstHalf i = (dbit i).isSome := rfl

/-- A pair of instructions in their halves. -/
theorem runPair_eq {fi ci : Instr} {d : Bool} (hd : dbit fi = some d) (hc : (traits ci).fp = false) (s : State) :
    runPair fi ci s = retirePair d (isControl ci) (pairConflict s fi ci) s (effect fi s) (effect ci) := by
  simp [runPair, firstHalf_eq, secondHalf, hd, hc]

theorem runPair_wrongHalves {fi ci : Instr} (h : dbit fi = none ∨ (traits ci).fp = true) (s : State) :
    runPair fi ci s = .refused .pairHalves := by
  rcases h with h | h <;> simp [runPair, firstHalf_eq, secondHalf, h]

/-- The step of a pair that the rules admit, by the effects of its halves. -/
theorem PairReady.step_eq {s : State} {fi ci : Instr} {d : Bool} (h : PairReady s fi ci d) {ec : Eff}
    (he : effect ci { s with free := (effect fi s).freeAfter s } = ec) :
    step s = pairOutcome s (s.pairMode d) (effect fi s) ec := by
  obtain ⟨hm, hpc, hi, hfetch, hcore, hd, hsecond, hconflict, harmed, hcontrol⟩ := h
  have hfp : (traits ci).fp = false := by simpa [secondHalf] using hsecond
  rw [step_pair hm hi hpc hfetch hcore.fetch_eq, runPair_eq hd hfp, hconflict]
  exact retirePair_admitted harmed (fun hc => (hcontrol hc).2) he

/-! ## Where control goes on after a pair (R210, R382, R385) -/

section
variable {s : State} (t : State) (m : ModeSel)

theorem State.complete_skip_dual (h : s.delay = none) (hm : s.mode = .dual) :
    s.complete t m .skip = { t with
      pc := if Config.dimSkipFpHalf then s.pc + 16 else s.pc + 8, delayMode := none
      skipCore := !Config.dimSkipFpHalf, mode := m.mode, armed := m.armed } := by
  have hpc : s.pc + 8 + 8 = s.pc + 16 := BitVec.add_assoc s.pc 8 8
  rw [State.complete, h, hm]
  cases Config.dimSkipFpHalf
  case false => rfl
  case true => simpa [Mode.width] using hpc

/-- After a pair control goes on as the core half says, or at the pending target where the pair is a slot. -/
theorem pairMovesOn_complete (hm : s.mode = .dual) (ht : t.delay = s.delay) (d : Bool) (c : Ctl) :
    PairMovesOn s (s.complete t (s.pairMode d) c) d c := by
  have hw : s.pc + s.mode.width = s.pc + 8 := by rw [hm]; rfl
  unfold PairMovesOn
  cases hd : s.delay
  case some a =>
    rw [State.complete_slot t _ hd]
    refine ⟨rfl, rfl, rfl, rfl, ?_⟩
    cases hsel : s.delayMode
    case none => exact ⟨rfl, rfl⟩
    case some sel => exact ⟨rfl, rfl⟩
  case none =>
    rw [hd] at ht
    cases c
    case seq =>
      rw [State.complete_seq t _ hd]
      exact ⟨⟨rfl, rfl⟩, hw, ht, rfl, rfl⟩
    case jump a =>
      rw [State.complete_jump t _ hd]
      exact ⟨⟨rfl, rfl⟩, rfl, ht, rfl, rfl⟩
    case delayed a sel =>
      rw [State.complete_delayed t _ hd]
      exact ⟨⟨rfl, rfl⟩, hw, rfl, rfl, rfl⟩
    case skip =>
      rw [State.complete_skip_dual t _ hd hm]
      exact ⟨⟨rfl, rfl⟩, rfl, ht, rfl, rfl⟩

end

/-! ## The writes of both halves (R384) -/

section
variable {α : Type} [DecidableEq α] {s sf sc t : State} {x : State → α}

/-- A part that the floating-point half leaves alone is the core half's. -/
theorem fromEither_core (hf : x sf = x s) (ht : x t = x sc) : FromEither s sf sc t x := by
  rw [FromEither, if_pos hf, ht]

/-- A part that the core half leaves alone is the floating-point half's. -/
theorem fromEither_fp (hc : x sc = x s) (ht : x t = x sf) : FromEither s sf sc t x := by
  rw [FromEither, ht]
  split
  case isTrue hf => exact hf.trans hc.symm
  case isFalse => rfl

end

theorem bothWrite_complete {s sf sc : State} {n : Nat} (hf : FpWrites s sf) (hc : CoreWrites { s with free := n } sc)
    (m : ModeSel) (c : Ctl) : BothWrite s sf sc (s.complete (s.overlay sf sc) m c) := by
  refine ⟨fun j => ?R, fun j => ?FS, ?cc, ?pm, ?psr, fromEither_core hf.epsr ?_, fromEither_core hf.dirbase ?_,
    fromEither_core hf.db ?_, fromEither_core hf.fsr ?_, fromEither_core hf.firLatched ?_,
    fromEither_core hf.slotFirs ?_, fromEither_core hf.frames ?_, fromEither_fp hc.kr ?_, fromEither_fp hc.ki ?_,
    fromEither_fp hc.t ?_, fromEither_fp hc.merge ?_, fromEither_fp hc.aPipe ?_, fromEither_fp hc.mPipe ?_,
    fromEither_fp hc.gPipe ?_, fromEither_core hf.lPipe ?_, ?fpPending, fromEither_core hf.busLock ?_,
    fromEither_core hf.mem ?_, fromEither_core hf.undef ?_, fromEither_core hf.stored ?_, fromEither_core hf.holes ?_,
    fromEither_core hf.haltPc ?_, ?_⟩
  case R => exact (State.R_congr (State.complete_r ..) j).trans (s.overlay_R sf sc j)
  case FS => exact (State.FS_congr (State.complete_f ..) j).trans (s.overlay_FS sf sc j)
  case cc => exact congrArg Psr.cc (State.complete_psr ..)
  case pm => exact congrArg Psr.pm (State.complete_psr ..)
  case psr =>
    refine fromEither_core ?_ ?_
    · exact congrArg (fun p : Psr => { p with cc := false, pm := 0 }) hf.psr
    · exact congrArg (fun p : Psr => { p with cc := false, pm := 0 }) (State.complete_psr ..)
  case fpPending => exact State.complete_fpPending ..
  all_goals simp

/-- Registers that the core half leaves alone are the floating-point half's. -/
theorem mergeRegs_unchanged_core (old fp : Vector Word 32) : mergeRegs old fp old = fp := by
  refine Vector.ext fun i hi => ?_
  rw [mergeRegs_get _ _ _ i hi]
  split
  case isTrue h => exact h.symm
  case isFalse => rfl

/-- Beside a core half that traps, which has written nothing, the floating-point half's state stands (R387). -/
theorem State.overlay_trapped {s sf : State} (hf : FpWrites s sf) (pending : Bool) (free : Nat) :
    s.overlay sf { s with fpPending := pending, free := free } =
      { sf with
        free := free
        fpPending := if sf.fpPending = s.fpPending then pending else sf.fpPending } := by
  simp only [State.overlay, mergeRegs_unchanged_core, pick_unchanged_core, State.mk.injEq]
  exact ⟨trivial, trivial, hf.pc.symm, hf.delay.symm, hf.delayMode.symm, hf.skipCore.symm, hf.mode.symm,
    hf.armed.symm, hf.psr.symm, hf.epsr.symm, hf.dirbase.symm, hf.db.symm, hf.fsr.symm, hf.firLatched.symm,
    hf.slotFirs.symm, hf.frames.symm, trivial, trivial, trivial, trivial, trivial, trivial, trivial, hf.lPipe.symm, rfl,
    hf.busLock.symm, hf.mem.symm, hf.undef.symm, hf.stored.symm, hf.holes.symm, hf.haltPc.symm, trivial⟩

/-! ## The pair rule (R382, R384, R385, R387, R422) -/

/-- The two states that the trap of a core half may leave, by the free choice (R387). -/
theorem pairCoreTrap_eq {s sf sc : State} {n : Nat} (hf : FpWrites s sf) (hc : Untouched { s with free := n } sc)
    (hbl : s.dirbase.bl = false) (k : Cause) :
    pairCoreTrap s sf sc k = .next (if Config.freeBool sc.free then
        { sf with
          free := sc.free + 1
          fpPending := if sf.fpPending = s.fpPending then sc.fpPending else sf.fpPending }.enterTrap k s.pc true
      else { s with free := sc.free + 1, fpPending := sc.fpPending }.enterTrap k s.pc false) := by
  have htick : sc.tick = { s with fpPending := sc.fpPending, free := sc.free + 1 } := congrArg State.tick hc
  rw [pairCoreTrap, htick, State.overlay_trapped hf]
  split
  case isTrue => exact State.takeTrap_of _ k s.pc true ((congrArg Dirbase.bl hf.dirbase).trans hbl)
  case isFalse => exact State.takeTrap_of _ k s.pc false hbl

/-- Settles O16: the effects of the halves decide how the pair ends; a half that traps has written nothing. -/
theorem pairAppliesBothHalvesOrTraps : Obligations.PairAppliesBothHalvesOrTraps := by
  intro s fi ci d h
  obtain ⟨hm, _, _, _, _, hd, hsecond, _⟩ := id h
  have hci : (traits ci).fp = false := by simpa [secondHalf] using hsecond
  have hfp : (effect fi s).FpHalf s := effect_fpHalf fi s (by rw [hd]; rfl)
  have hcore (n : Nat) : (effect ci { s with free := n }).CoreHalf { s with free := n } := effect_coreHalf ci _ hci
  refine ⟨fun sf sc c hf hc => ?complete, fun sf k hf hc hbl => ?fpTrap, fun sf sc k hf hc hbl => ?coreTrap⟩
  all_goals rw [hf] at hfp
  case complete =>
    have hwrites := hcore sf.free
    rw [hc] at hwrites
    have hstep := h.step_eq (ec := .ok sc c) (by rw [hf]; exact hc)
    rw [hf] at hstep
    exact ⟨_, hstep.trans (pairOutcome_ok ..), bothWrite_complete hfp.1 hwrites _ c,
      pairMovesOn_complete (s.overlay sf sc) hm hwrites.delay d c⟩
  case fpTrap =>
    obtain ⟨rfl, huntouched⟩ := hfp
    have hstep := h.step_eq (ec := effect ci s) (by rw [hf]; rfl)
    have hbl' : sf.dirbase.bl = false := by rw [huntouched]; exact hbl
    rw [hstep, hf, pairOutcome_fp_trap _ _ _ _ _ hc, sf.takeTrap_of _ _ _ hbl', ← huntouched]
  case coreTrap =>
    have huntouched := hcore sf.free
    rw [hc] at huntouched
    have hstep := h.step_eq (ec := .trap k sc) (by rw [hf]; exact hc)
    rw [hstep, hf, pairOutcome_core_trap]
    exact pairCoreTrap_eq hfp.1 huntouched hbl k

end Sys2Proof.Machine
end

section
/-!
PROOFS. Floating-point exceptions: a pending result exception is reported before any effect, always or by a free choice
(O21).
-/
namespace Sys2Proof.Machine

/-! ## What the word does not refuse (R411) -/

/-- The effect `e` is `e'`, unless it is a refusal that depends on the word and the mode alone. -/
def Eff.EndsIn (e e' : Eff) : Prop := e.staticRefusal = none → e = e'

theorem endsIn_demand {e' k : Eff} {b : Bool} {r : Refusal} (hr : r.static = true) (hk : k.EndsIn e') :
    (demand b r k).EndsIn e' := by
  cases b
  case true => exact hk
  case false =>
    intro h
    simp [Eff.staticRefusal_refuse, hr] at h

/-! ## A report that is always made (R406, R407) -/

/-- The trap that reports a pending result exception: only the note of the exception is written. -/
def State.reportTrap (s : State) : Eff := .trap .ft { s with fpPending := false }

section
variable {s : State} (hr : s.reporting = true)
include hr

theorem endsIn_reportResult (k : Eff) : (reportResult s k).EndsIn s.reportTrap := fun _ => if_pos hr

/-- The register numbers are all that comes before the report. -/
theorem endsIn_demand_report (b : Bool) {r : Refusal} (hstatic : r.static = true) (k : Eff) :
    (demand b r (reportResult s k)).EndsIn s.reportTrap := endsIn_demand hstatic (endsIn_reportResult hr k)

/-- The register numbers and a restriction come before the report. -/
theorem endsIn_demands_report (b c : Bool) {r q : Refusal} (hr' : r.static = true) (hq : q.static = true) (k : Eff) :
    (demand b r (demand c q (reportResult s k))).EndsIn s.reportTrap :=
  endsIn_demand hr' (endsIn_demand_report hr c hq k)

section
variable {sp rp p : Prec} {src src1 src2 dest : Reg}
variable {f : Prec → Prec → FpEnv → DWord → DWord → FpOut} {g : Prec → FpEnv → DWord → FpOut}

theorem scalar2_reports {unit : Prec → Reg → FpOut → State → Eff} :
    (scalar2 unit f sp rp src1 src2 dest s).EndsIn s.reportTrap := endsIn_demand_report hr _ rfl _

theorem scalarToInt_reports : (scalarToInt g sp rp src dest s).EndsIn s.reportTrap := endsIn_demand_report hr _ rfl _

theorem scalarMove_reports : (scalarMove sp rp src dest s).EndsIn s.reportTrap := endsIn_demand_report hr _ rfl _

theorem scalarSeed_reports : (scalarSeed f sp rp src dest s).EndsIn s.reportTrap := endsIn_demand_report hr _ rfl _

theorem pipedAdder2_reports : (pipedAdder2 f sp rp src1 src2 dest s).EndsIn s.reportTrap :=
  endsIn_demand_report hr _ rfl _

theorem pipedToInt_reports : (pipedToInt g sp rp src dest s).EndsIn s.reportTrap := endsIn_demand_report hr _ rfl _

theorem pipedMove_reports : (pipedMove sp rp src dest s).EndsIn s.reportTrap := endsIn_demand_report hr _ rfl _

theorem pipedCompare_reports {c : Prec → FpEnv → DWord → DWord → FpCond} {invert : Bool} :
    (pipedCompare c invert sp src1 src2 dest s).EndsIn s.reportTrap := endsIn_demand_report hr _ rfl _

theorem pipedMultiplier_reports {three : Bool} :
    (pipedMultiplier three sp rp src1 src2 dest s).EndsIn s.reportTrap := endsIn_demands_report hr _ _ rfl rfl _

theorem dualOperation_reports {toMul : Bool} {path : DataPath} :
    (dualOperation f toMul path p src1 src2 dest s).EndsIn s.reportTrap := endsIn_demands_report hr _ _ rfl rfl _

theorem longScalar_reports {h : DWord → DWord → DWord} : (longScalar h p src1 src2 dest s).EndsIn s.reportTrap :=
  endsIn_demand_report hr _ rfl _

theorem longPiped_reports {h : DWord → DWord → DWord} : (longPiped h p src1 src2 dest s).EndsIn s.reportTrap :=
  endsIn_demands_report hr _ _ rfl rfl _

end

/-- Floating-point format, fst and pst.d report before anything but the refusals of the word. -/
theorem effect_reports {i : Instr} (hi : reportsResult i = true) : (effect i s).EndsIn s.reportTrap := by
  cases i
  all_goals dsimp only [effect]
  case faddSs | faddSd | faddDd | fsubSs | fsubSd | fsubDd | fmulSs | fmulSd | fmulDd => exact scalar2_reports hr
  case fixSs | fixSd | fixDd | ftruncSs | ftruncSd | ftruncDd => exact scalarToInt_reports hr
  case famovSs | famovSd | famovDs | famovDd | fmovSd | fmovDs => exact scalarMove_reports hr
  case frcpSs | frcpSd | frcpDd | frsqrSs | frsqrSd | frsqrDd => exact scalarSeed_reports hr
  case pfaddSs | pfaddSd | pfaddDd | pfsubSs | pfsubSd | pfsubDd => exact pipedAdder2_reports hr
  case pfixSs | pfixSd | pfixDd | pftruncSs | pftruncSd | pftruncDd => exact pipedToInt_reports hr
  case pfamovSs | pfamovSd | pfamovDs | pfamovDd | pfmovSd | pfmovDs => exact pipedMove_reports hr
  case pfgtSs | pfgtDd | pfleSs | pfleDd | pfeqSs | pfeqDd => exact pipedCompare_reports hr
  case pfmulSs | pfmulSd | pfmulDd | pfmul3Dd => exact pipedMultiplier_reports hr
  case pfamSs | pfamDd | pfsmSs | pfsmDd | pfmamSs | pfmamDd | pfmsmSs | pfmsmDd => exact dualOperation_reports hr
  case pfamSd | pfsmSd | pfmamSd | pfmsmSd => exact nofun
  case fiaddSs | fiaddDd | fisubSs | fisubDd | fmovSs | fmovDd => exact longScalar_reports hr
  case pfiaddSs | pfiaddDd | pfisubSs | pfisubDd | pfmovSs | pfmovDd => exact longPiped_reports hr
  case fmlowDd | faddp | faddz | form | fzchkl | pfzchkl | fzchks | pfzchks => exact endsIn_demand_report hr _ rfl _
  case pfaddp | pfaddz | pform => exact endsIn_demands_report hr _ _ rfl rfl _
  case fxfr | fstlI => exact endsIn_reportResult hr _
  case fstlR | fstdI | fstqI | pstd => exact endsIn_demand_report hr _ rfl _
  case fstdR | fstqR => exact endsIn_demands_report hr _ _ rfl rfl _
  all_goals exact absurd hi Bool.false_ne_true

end

theorem isControl_of_reportsResult {i : Instr} (h : reportsResult i = true) : isControl i = false := by
  cases i <;> cases h <;> rfl

/-! ## A report that is a free choice (R407, U10) -/

/-- The note of a pending result exception replaced. -/
def State.withPending (s : State) (p : Bool) : State := { s with fpPending := p }

/-- The same in the state that an effect leaves. -/
def Eff.withPending (p : Bool) : Eff → Eff
  | .ok t c => .ok (t.withPending p) c
  | .trap c t => .trap c (t.withPending p)
  | .refuse r => .refuse r

section
variable (s : State) (p : Bool)

theorem State.withPending_setFS (i : Reg) (v : Word) :
    (s.withPending p).setFS i v = (s.setFS i v).withPending p := by
  unfold State.setFS
  split <;> rfl

theorem State.withPending_setFD (i : Reg) (v : DWord) :
    (s.withPending p).setFD i v = (s.setFD i v).withPending p := by
  rw [State.setFD, State.withPending_setFS, State.withPending_setFS]
  rfl

theorem State.withPending_setFQ (i : Reg) (v : BitVec 128) :
    (s.withPending p).setFQ i v = (s.setFQ i v).withPending p := by
  rw [State.setFQ, State.withPending_setFD, State.withPending_setFD]
  rfl

theorem State.withPending_fwrite (i : Reg) (q : Prec) (v : DWord) :
    (s.withPending p).fwrite i q v = (s.fwrite i q v).withPending p := (State.fwrite_fpPending_comm s i q v p).symm

theorem State.withPending_increment (auto : Bool) (base : Reg) (ea : Word) :
    (s.withPending p).increment auto base ea = (s.increment auto base ea).withPending p := by
  unfold State.increment State.setR
  split
  · split <;> rfl
  · rfl

theorem State.withPending_loaded (ea : Word) (n : Nat) :
    (s.withPending p).loaded ea n = (s.loaded ea n).withPending p := by
  rw [State.loaded_eq, State.loaded_eq]
  rfl

/-- A pfld delivers the same whatever is pending. -/
theorem deliverLoad_withPending (old : LoadEntry) (dest : Reg) (q : Prec) :
    deliverLoad (s.withPending p) old dest q = (deliverLoad s old dest q).map (·.withPending p) := by
  cases old
  case val a v w =>
    dsimp only [deliverLoad]
    split
    case isTrue => exact congrArg Except.ok (s.withPending_fwrite p dest w v)
    case isFalse => rfl
  case undef =>
    dsimp only [deliverLoad]
    split
    case isTrue => rfl
    case isFalse => exact congrArg Except.ok (s.tick.withPending_fwrite p dest _ s.drawn)

end

section
variable {s : State} (hp : s.fpPending = true) (hfte : fsrFte s.fsr = true)
include hp hfte

theorem State.reporting_of : s.reporting = true := by rw [State.reporting, hp, hfte]; rfl

/-- A fld, pfld or ixfr that reports. -/
theorem effect_mayReport_traps {i : Instr} (hi : mayReport i = true) (hf : Config.freeBool s.free = true) :
    (effect i s).EndsIn s.tick.reportTrap := by
  have zero (k : State → Eff) : (mayReportResult s k).EndsIn s.tick.reportTrap :=
    fun _ => mayReportResult_trap s k (State.reporting_of hp hfte) hf
  have one {b r} (k : State → Eff) (hstatic : r.static = true) :
      (demand b r (mayReportResult s k)).EndsIn s.tick.reportTrap := endsIn_demand hstatic (zero k)
  have two {b c r q} (k : State → Eff) (hstatic : r.static = true) (hstatic' : q.static = true) :
      (demand b r (demand c q (mayReportResult s k))).EndsIn s.tick.reportTrap := endsIn_demand hstatic (one k hstatic')
  cases i
  case fldlI | pfldlI | pflddI | ixfr =>
    dsimp only [effect, effFldlI, effPfldlI, effPflddI, effIxfr]
    exact zero _
  case fldlR | flddI | fldqI | pfldlR | pflddR => exact one _ rfl
  case flddR | fldqR => exact two _ rfl rfl
  all_goals exact absurd hi Bool.false_ne_true

variable (hf : Config.freeBool s.free = false)
include hf

/-- Where the choice is against the report, the instruction runs with the exception pending as it runs with none. -/
theorem mayReportResult_runs {k : State → Eff} (hk : ∀ u, k (u.withPending true) = (k u).withPending true) :
    mayReportResult s k = (mayReportResult (s.tick.withPending false) k).withPending true := by
  have hquiet : (s.tick.withPending false).fpPending = true → fsrFte (s.tick.withPending false).fsr = false := nofun
  have hpending : s.tick = (s.tick.withPending false).withPending true := by
    rw [State.withPending, State.withPending, ← hp]
    rfl
  rw [mayReportResult_run s k (State.reporting_of hp hfte) hf, mayReportResult_none _ k hquiet, ← hk, ← hpending]

/-- A write of registers that does not see the pending exception. -/
def PendingBlind (write : State → BitVec 128 → State) : Prop :=
  ∀ u v p, write (u.withPending p) v = (write u v).withPending p

theorem loadFp_runs (n : Nat) {write : State → BitVec 128 → State} (hw : PendingBlind write) (auto : Bool) (base : Reg)
    (ea : Word) :
    loadFp n write auto base ea s = (loadFp n write auto base ea (s.tick.withPending false)).withPending true := by
  refine mayReportResult_runs hp hfte hf fun u => ?_
  have hdata : (u.withPending true).dataOk ea n = u.dataOk ea n := rfl
  have hbits : (u.withPending true).loadBits ea n = u.loadBits ea n := rfl
  rw [checkData, checkData, hdata, hbits, State.withPending_loaded, hw, State.withPending_increment]
  split <;> rfl

theorem pipedLoad_runs (q : Prec) (auto : Bool) (base dest : Reg) (ea : Word) :
    pipedLoad q auto base dest ea s = (pipedLoad q auto base dest ea (s.tick.withPending false)).withPending true := by
  refine mayReportResult_runs hp hfte hf fun u => ?_
  have hdata : (u.withPending true).dataOk ea q.bytes = u.dataOk ea q.bytes := rfl
  have hbits : (u.withPending true).loadBits ea q.bytes = u.loadBits ea q.bytes := rfl
  have hpipe : (u.withPending true).lPipe = u.lPipe := rfl
  rw [checkData, checkData, hdata, hbits, hpipe, State.withPending_loaded, deliverLoad_withPending]
  split
  case isFalse => rfl
  case isTrue =>
    cases deliverLoad (u.loaded ea q.bytes) u.lPipe.q3 dest q
    case error => rfl
    case ok t => exact congrArg (Eff.ok · .seq) (State.withPending_increment { t with lPipe := _ } true auto base ea)

theorem ixfr_runs (src1 dest : Reg) :
    effIxfr src1 dest s = (effIxfr src1 dest (s.tick.withPending false)).withPending true :=
  mayReportResult_runs hp hfte hf fun u =>
    congrArg (Eff.ok · .seq) (u.withPending_setFS true dest (u.R src1))

end

theorem Eff.withPending_demand (p b : Bool) (r : Refusal) (k : Eff) :
    (demand b r k).withPending p = demand b r (k.withPending p) := by cases b <;> rfl

/-- A fld, pfld or ixfr that does not report does what it does with nothing pending, and the exception stays. -/
theorem effect_mayReport_runs {i : Instr} {s : State} (hi : mayReport i = true) (hp : s.fpPending = true)
    (hfte : fsrFte s.fsr = true) (hf : Config.freeBool s.free = false) :
    effect i s = (effect i (s.tick.withPending false)).withPending true := by
  have hFS (dest : Reg) : PendingBlind fun u v => u.setFS dest (v.setWidth 32) :=
    fun u _ p => u.withPending_setFS p dest _
  have hFD (dest : Reg) : PendingBlind fun u v => u.setFD dest (v.setWidth 64) :=
    fun u _ p => u.withPending_setFD p dest _
  have hFQ (dest : Reg) : PendingBlind fun u v => u.setFQ dest v := fun u v p => u.withPending_setFQ p dest v
  have one {b r e k} (h : e = k.withPending true) : demand b r e = (demand b r k).withPending true := by
    rw [Eff.withPending_demand, h]
  cases i
  all_goals dsimp only [effect]
  case fldlI => exact loadFp_runs hp hfte hf _ (hFS _) _ _ _
  case fldlR => exact one (loadFp_runs hp hfte hf _ (hFS _) _ _ _)
  case flddI => exact one (loadFp_runs hp hfte hf _ (hFD _) _ _ _)
  case flddR => exact one (one (loadFp_runs hp hfte hf _ (hFD _) _ _ _))
  case fldqI => exact one (loadFp_runs hp hfte hf _ (hFQ _) _ _ _)
  case fldqR => exact one (one (loadFp_runs hp hfte hf _ (hFQ _) _ _ _))
  case pfldlI | pflddI => exact pipedLoad_runs hp hfte hf _ _ _ _ _
  case pfldlR | pflddR => exact one (pipedLoad_runs hp hfte hf _ _ _ _ _)
  case ixfr => exact ixfr_runs hp hfte hf _ _
  all_goals exact absurd hi Bool.false_ne_true

/-- A load or transfer that may report has no D-bit and is no control transfer. -/
theorem mayReport_core {i : Instr} (h : mayReport i = true) : dbit i = none ∧ isControl i = false := by
  cases i <;> cases h <;> exact ⟨rfl, rfl⟩

/-! ## The steps of both kinds -/

section
variable {s t : State} (p : Bool)

/-- Moving on does not see the pending exception (R210). -/
theorem State.movedOn_withPending (hm : s.mode = .single) (d : Bool) (c : Ctl) :
    s.movedOn d (t.withPending p) c = (s.movedOn d t c).withPending p := by
  unfold State.movedOn
  cases hd : s.delay
  case some =>
    rw [State.complete_slot _ _ hd, State.complete_slot _ _ hd]
    rfl
  case none =>
    cases c
    case seq =>
      rw [State.complete_seq _ _ hd, State.complete_seq _ _ hd]
      rfl
    case jump =>
      rw [State.complete_jump _ _ hd, State.complete_jump _ _ hd]
      rfl
    case delayed =>
      rw [State.complete_delayed _ _ hd, State.complete_delayed _ _ hd]
      rfl
    case skip =>
      rw [State.complete_skip_single _ _ hd hm, State.complete_skip_single _ _ hd hm]
      rfl

/-- Nor does trap entry (R405). -/
theorem State.takeTrap_withPending {c : Cause} {a : Word} {knf : Bool} {v : State}
    (h : t.takeTrap c a knf = .next v) : (t.withPending p).takeTrap c a knf = .next (v.withPending p) := by
  obtain ⟨hbl, rfl⟩ := State.takeTrap_next h
  exact State.takeTrap_of (t.withPending p) c a knf hbl

theorem State.takeTrap_withPending_refused {c : Cause} {a : Word} {knf : Bool} {r : Refusal}
    (h : t.takeTrap c a knf = .refused r) : (t.withPending p).takeTrap c a knf = .refused r := by
  cases hbl : t.dirbase.bl
  case true =>
    rw [t.takeTrap_locked hbl] at h
    rw [(t.withPending p).takeTrap_locked hbl, h]
  case false =>
    rw [t.takeTrap_of c a knf hbl] at h
    cases h

end

/-- A core instruction whose effect differs from that in `u` by the pending exception alone ends its step as in `u`. -/
theorem exec_withPending {i : Instr} {s u : State} {p : Bool} (hi : mayReport i = true) (hm : s.mode = .single)
    (hu : Untouched s u)
    (he : effect i s = (effect i u).withPending p) :
    (∀ t, exec i u = .next t → exec i s = .next (t.withPending p)) ∧
      ∀ r, exec i u = .refused r → exec i s = .refused r := by
  obtain ⟨hd, hc⟩ := mayReport_core hi
  have hmode : u.mode = .single := by rw [hu]; exact hm
  have hpc : u.pc = s.pc := by rw [hu]
  have hmoved (t : State) (c : Ctl) : u.movedOn false t c = s.movedOn false t c := by rw [hu]; rfl
  have hdbit {x : State} : x.armed = true → dbit i ≠ some false := by simp [hd]
  have hcontrol {x : State} : isControl i = true → x.armed = false := by simp [hc]
  cases hx : effect i u
  all_goals rw [hx] at he
  case ok t c =>
    rw [exec_of_ok hmode hdbit hcontrol hx, exec_of_ok hm hdbit hcontrol he, hd]
    refine ⟨fun v hv => ?_, nofun⟩
    cases hv
    rw [Option.getD_none, State.movedOn_withPending p hm, hmoved]
  case trap c t =>
    rw [exec_of_trap hmode hdbit hcontrol hx, exec_of_trap hm hdbit hcontrol he, hpc]
    exact ⟨fun v => State.takeTrap_withPending p (v := v), fun r => State.takeTrap_withPending_refused p (r := r)⟩
  case refuse r =>
    rw [exec_of_refuse hmode hdbit hcontrol hx, exec_of_refuse hm hdbit hcontrol he]
    exact ⟨fun _ hv => (nomatch hv), fun _ hr => hr⟩

/-- Settles O21: the report comes before every effect, and where the choice is against it no effect sees the pending
exception. -/
theorem pendingResultExceptionIsReported : Obligations.PendingResultExceptionIsReported := by
  refine ⟨fun i s hi hm hd hp hfte hbl hstatic => ?always, fun i s hi hm hp hfte => ?sometimes⟩
  case always =>
    have he := effect_reports (State.reporting_of hp hfte) hi hstatic
    rw [exec_of_trap hm hd (by simp [isControl_of_reportsResult hi]) he]
    exact State.takeTrap_of _ .ft s.pc false hbl
  case sometimes =>
    refine ⟨fun hf hbl hstatic => ?trap, fun hf => ?run⟩
    case trap =>
      obtain ⟨hd, hc⟩ := mayReport_core hi
      rw [exec_of_trap hm (by simp [hd]) (by simp [hc]) (effect_mayReport_traps hp hfte hi hf hstatic)]
      exact State.takeTrap_of _ .ft s.pc false hbl
    case run => exact exec_withPending hi hm rfl (effect_mayReport_runs hi hp hfte hf)

end Sys2Proof.Machine
end

section
/-!
PROOFS. Source exceptions: with FTE set, an instruction whose operands give one traps before any write (O22).
-/
namespace Sys2Proof.Machine

/-! ## The trap of a source exception (R406) -/

theorem checkSource_trap {t : State} (hfte : fsrFte t.fsr = true) {se : Bool} (hse : se = true) (k : Eff) :
    checkSource se t k = .trap .ft t := by simp [checkSource, hfte, hse]

section
variable {i : Instr} {s : State} {d : Bool} {sp rp : Prec} {src src1 src2 dest : Reg}
variable (hs : FpReady s d) (hd : dbit i = some d) (hc : isControl i = false)
variable (hbl : s.dirbase.bl = false) (hfte : fsrFte s.fsr = true)
include hs hd hc hbl

/-- A floating-point form whose effect traps outside a locked sequence; at most free values have been drawn. -/
theorem traps_fp {t : State} (he : effect i s = .trap .ft t) (ht : t.dirbase = s.dirbase) :
    exec i s = .next (t.enterTrap .ft s.pc false) := by
  obtain ⟨hmode, hdual, _⟩ := hs
  have hexit (ha : s.armed = true) : dbit i ≠ some false := by
    rw [hd, hdual ha]
    nofun
  rw [exec_of_trap hmode hexit (by simp [hc]) he]
  exact t.takeTrap_of .ft s.pc false ((congrArg Dirbase.bl ht).trans hbl)

include hfte

/-- The registers fit, nothing is reported first, and the source exception traps. -/
theorem traps_source {b se : Bool} {r : Refusal} {k : Eff} (hb : b = true)
    (he : effect i s = demand b r (reportResult s (checkSource se s k))) (hse : se = true) :
    exec i s = .next (s.enterTrap .ft s.pc false) := by
  refine traps_fp hs hd hc hbl (he.trans ?_) rfl
  rw [demand_of b r _ hb, reportResult_none s _ hs.2.2, checkSource_trap hfte hse]

section
variable {f : Prec → Prec → FpEnv → DWord → DWord → FpOut}

theorem traps_scalarAdder (hfit : fits2 sp src1 src2 rp dest = true)
    (he : effect i s = scalar2 scalarAdder f sp rp src1 src2 dest s) :
    (f sp rp s.fpEnv (s.fread src1 sp) (s.fread src2 sp)).se = true →
      exec i s = .next (s.enterTrap .ft s.pc false) := traps_source hs hd hc hbl hfte hfit he

theorem traps_scalarMultiplier (hfit : fits2 sp src1 src2 rp dest = true)
    (he : effect i s = scalar2 scalarMultiplier f sp rp src1 src2 dest s) :
    (f sp rp s.fpEnv (s.fread src1 sp) (s.fread src2 sp)).se = true →
      exec i s = .next (s.enterTrap .ft s.pc false) := traps_source hs hd hc hbl hfte hfit he

theorem traps_pipedAdder2 (hfit : fits2 sp src1 src2 rp dest = true)
    (he : effect i s = pipedAdder2 f sp rp src1 src2 dest s) :
    (f sp rp s.fpEnv (s.fread src1 sp) (s.fread src2 sp)).se = true →
      exec i s = .next (s.enterTrap .ft s.pc false) := traps_source hs hd hc hbl hfte hfit he

theorem traps_scalarSeed (hfit : fits1 sp src rp dest = true) (he : effect i s = scalarSeed f sp rp src dest s) :
    (f sp rp s.fpEnv (s.fread src sp) s.drawn).se = true → exec i s = .next (s.enterTrap .ft s.pc false) :=
  traps_source hs hd hc hbl hfte hfit he

end

/-- A move reports the source exceptions of its conversion (R272). -/
theorem traps_scalarMove (hfit : fits1 sp src rp dest = true) (he : effect i s = scalarMove sp rp src dest s) :
    (fpCvt sp rp s.fpEnv (s.fread src sp)).se = true → exec i s = .next (s.enterTrap .ft s.pc false) :=
  traps_source hs hd hc hbl hfte hfit he

theorem traps_pipedMove (hfit : fits1 sp src rp dest = true) (he : effect i s = pipedMove sp rp src dest s) :
    (fpCvt sp rp s.fpEnv (s.fread src sp)).se = true → exec i s = .next (s.enterTrap .ft s.pc false) :=
  traps_source hs hd hc hbl hfte hfit he

section
variable {f : Prec → FpEnv → DWord → FpOut}

theorem traps_scalarToInt (hfit : fits1 sp src rp dest = true) (he : effect i s = scalarToInt f sp rp src dest s) :
    (f sp s.fpEnv (s.fread src sp)).se = true → exec i s = .next (s.enterTrap .ft s.pc false) :=
  traps_source hs hd hc hbl hfte hfit he

theorem traps_pipedToInt_single (hfit : fits1 sp src .s dest = true) (he : effect i s = pipedToInt f sp .s src dest s) :
    (f sp s.fpEnv (s.fread src sp)).se = true → exec i s = .next (s.enterTrap .ft s.pc false) :=
  traps_source hs hd hc hbl hfte hfit he

/-- A conversion to a double entry draws the upper half of the entry first (D27). -/
theorem traps_pipedToInt_double (hfit : fits1 sp src .d dest = true) (he : effect i s = pipedToInt f sp .d src dest s)
    (hse : (f sp s.fpEnv (s.fread src sp)).se = true) : exec i s = .next (s.tick.enterTrap .ft s.pc false) := by
  refine traps_fp hs hd hc hbl (he.trans ?_) rfl
  rw [pipedToInt, demand_of _ _ _ hfit, reportResult_none s _ hs.2.2]
  exact checkSource_trap (t := s.tick) hfte hse _

end

theorem traps_pipedCompare {f : Prec → FpEnv → DWord → DWord → FpCond} {invert : Bool}
    (hfit : fits2 sp src1 src2 sp dest = true) (he : effect i s = pipedCompare f invert sp src1 src2 dest s) :
    (f sp s.fpEnv (s.fread src1 sp) (s.fread src2 sp)).se = true → exec i s = .next (s.enterTrap .ft s.pc false) :=
  traps_source hs hd hc hbl hfte hfit he

/-- A multiply looks for its stages before its operands (R301, R303). -/
theorem traps_pipedMultiplier {three : Bool} (hfit : fits2 sp src1 src2 rp dest = true)
    (he : effect i s = pipedMultiplier three sp rp src1 src2 dest s)
    (hsrc : dest = 0 ∨ regsOverlap sp src1 rp dest = false) (hready : s.mPipe.ready three ≠ none)
    (hse : (fpMul sp rp s.fpEnv (s.fread src1 sp) (s.fread src2 sp)).se = true) :
    exec i s = .next (s.enterTrap .ft s.pc false) := by
  obtain ⟨m, hm⟩ := Option.ne_none_iff_exists'.1 hready
  rw [pipedMultiplier, demand_of _ _ _ hfit, hm] at he
  exact traps_source hs hd hc hbl hfte (mulSourceOk_of hsrc) he hse

/-- A dual operation traps for either unit (R330). -/
theorem traps_dualOperation {f : Prec → Prec → FpEnv → DWord → DWord → FpOut} {toMul : Bool} {path : DataPath}
    {p : Prec} (hfit : fits2 p src1 src2 p dest = true)
    (he : effect i s = dualOperation f toMul path p src1 src2 dest s)
    (hsrc : dualSourceOk path p src1 dest = true) {m : MPipe} (hm : s.mPipe.ready p.threeStage = some m) :
    let operand := s.dualOperand m p src1 src2
    (∃ o, o.se = true ∧ (dualAnswer fpMul s.fpEnv p (operand path.m1) (operand path.m2) = some o ∨
      dualAnswer f s.fpEnv p (operand path.a1) (operand path.a2) = some o)) →
    exec i s = .next (s.enterTrap .ft s.pc false) := by
  rintro operand ⟨o, hse, ho⟩
  have hout {a : Option FpOut} (h : a = some o) : (dualOut a).se = true := by rw [h]; exact hse
  rw [dualOperation, demand_of _ _ _ hfit, hm] at he
  refine traps_source hs hd hc hbl hfte hsrc he ?_
  rw [Bool.or_eq_true]
  exact ho.imp hout hout

end

/-- Settles O22: each form is its shared operation on its configuration function, and each checks its operands before
it writes. -/
theorem sourceExceptionTrapsBeforeAnyWrite : Obligations.SourceExceptionTrapsBeforeAnyWrite := by
  intro src1 src2 dest d s hs hbl hfte traps two one draws move seed compares multiplies dual
  have add {i f sp rp} (hfit : fits2 sp src1 src2 rp dest = true) (hd : dbit i = some d) (hc : isControl i = false)
      (he : effect i s = scalar2 scalarAdder f sp rp src1 src2 dest s) : two i f sp rp :=
    traps_scalarAdder hs hd hc hbl hfte hfit he
  have mul {i f sp rp} (hfit : fits2 sp src1 src2 rp dest = true) (hd : dbit i = some d) (hc : isControl i = false)
      (he : effect i s = scalar2 scalarMultiplier f sp rp src1 src2 dest s) : two i f sp rp :=
    traps_scalarMultiplier hs hd hc hbl hfte hfit he
  have padd {i f sp rp} (hfit : fits2 sp src1 src2 rp dest = true) (hd : dbit i = some d) (hc : isControl i = false)
      (he : effect i s = pipedAdder2 f sp rp src1 src2 dest s) : two i f sp rp :=
    traps_pipedAdder2 hs hd hc hbl hfte hfit he
  have int {i f sp rp} (hfit : fits1 sp src1 rp dest = true) (hd : dbit i = some d) (hc : isControl i = false)
      (he : effect i s = scalarToInt f sp rp src1 dest s) : one i f sp := traps_scalarToInt hs hd hc hbl hfte hfit he
  have pint {i f sp} (hfit : fits1 sp src1 .s dest = true) (hd : dbit i = some d) (hc : isControl i = false)
      (he : effect i s = pipedToInt f sp .s src1 dest s) : one i f sp :=
    traps_pipedToInt_single hs hd hc hbl hfte hfit he
  have pdraw {i f sp} (hfit : fits1 sp src1 .d dest = true) (hd : dbit i = some d) (hc : isControl i = false)
      (he : effect i s = pipedToInt f sp .d src1 dest s) : draws i f sp :=
    traps_pipedToInt_double hs hd hc hbl hfte hfit he
  have mov {i sp rp} (hfit : fits1 sp src1 rp dest = true) (hd : dbit i = some d) (hc : isControl i = false)
      (he : effect i s = scalarMove sp rp src1 dest s) : move i sp rp := traps_scalarMove hs hd hc hbl hfte hfit he
  have pmov {i sp rp} (hfit : fits1 sp src1 rp dest = true) (hd : dbit i = some d) (hc : isControl i = false)
      (he : effect i s = pipedMove sp rp src1 dest s) : move i sp rp := traps_pipedMove hs hd hc hbl hfte hfit he
  have rcp {i f sp rp} (hfit : fits1 sp src2 rp dest = true) (hd : dbit i = some d) (hc : isControl i = false)
      (he : effect i s = scalarSeed f sp rp src2 dest s) : seed i f sp rp := traps_scalarSeed hs hd hc hbl hfte hfit he
  have cmp {i f invert sp} (hfit : fits2 sp src1 src2 sp dest = true) (hd : dbit i = some d)
      (hc : isControl i = false) (he : effect i s = pipedCompare f invert sp src1 src2 dest s) : compares i f sp :=
    traps_pipedCompare hs hd hc hbl hfte hfit he
  have pmul {i three sp rp} (hfit : fits2 sp src1 src2 rp dest = true) (hd : dbit i = some d)
      (hc : isControl i = false) (he : effect i s = pipedMultiplier three sp rp src1 src2 dest s) :
      multiplies i three sp rp := traps_pipedMultiplier hs hd hc hbl hfte hfit he
  have both {i f toMul path p} (hfit : fits2 p src1 src2 p dest = true) (hd : dbit i = some d)
      (hc : isControl i = false) (he : effect i s = dualOperation f toMul path p src1 src2 dest s) : dual i f path p :=
    fun hsrc _ hm ho _ => traps_dualOperation hs hd hc hbl hfte hfit he hsrc hm ho
  have hss : fits2 .s src1 src2 .s dest = true := rfl
  have hss1 : fits1 .s src1 .s dest = true := rfl
  refine ⟨add hss rfl rfl rfl, add hss rfl rfl rfl, mul hss rfl rfl rfl, padd hss rfl rfl rfl, padd hss rfl rfl rfl,
    int hss1 rfl rfl rfl, int hss1 rfl rfl rfl, pint hss1 rfl rfl rfl, pint hss1 rfl rfl rfl, mov hss1 rfl rfl rfl,
    pmov hss1 rfl rfl rfl, rcp rfl rfl rfl rfl, rcp rfl rfl rfl rfl, cmp hss rfl rfl rfl, cmp hss rfl rfl rfl,
    cmp hss rfl rfl rfl, pmul hss rfl rfl rfl, fun _ => ⟨both hss rfl rfl rfl, both hss rfl rfl rfl,
      both hss rfl rfl rfl, both hss rfl rfl rfl⟩, fun hdest => ?sd, fun h1 => ?ds, fun h2 hdest => ?seeds,
    fun h1 hdest => ?dd⟩
  case sd =>
    have hsd : fits2 .s src1 src2 .d dest = true := fits2_of rfl rfl (Prec.fits_d hdest)
    have hsd1 (src : Reg) : fits1 .s src .d dest = true := fits1_of rfl (Prec.fits_d hdest)
    exact ⟨add hsd rfl rfl rfl, add hsd rfl rfl rfl, mul hsd rfl rfl rfl, padd hsd rfl rfl rfl, padd hsd rfl rfl rfl,
      int (hsd1 _) rfl rfl rfl, int (hsd1 _) rfl rfl rfl, pdraw (hsd1 _) rfl rfl rfl, pdraw (hsd1 _) rfl rfl rfl,
      mov (hsd1 _) rfl rfl rfl, pmov (hsd1 _) rfl rfl rfl, mov (hsd1 _) rfl rfl rfl, pmov (hsd1 _) rfl rfl rfl,
      rcp (hsd1 _) rfl rfl rfl, rcp (hsd1 _) rfl rfl rfl, pmul hsd rfl rfl rfl⟩
  case ds =>
    have hds1 : fits1 .d src1 .s dest = true := fits1_of (Prec.fits_d h1) rfl
    exact ⟨mov hds1 rfl rfl rfl, pmov hds1 rfl rfl rfl, mov hds1 rfl rfl rfl, pmov hds1 rfl rfl rfl⟩
  case seeds =>
    have hdd1 : fits1 .d src2 .d dest = true := fits1_of (Prec.fits_d h2) (Prec.fits_d hdest)
    exact ⟨rcp hdd1 rfl rfl rfl, rcp hdd1 rfl rfl rfl⟩
  case dd =>
    have hdd1 : fits1 .d src1 .d dest = true := fits1_of (Prec.fits_d h1) (Prec.fits_d hdest)
    refine ⟨int hdd1 rfl rfl rfl, int hdd1 rfl rfl rfl, pdraw hdd1 rfl rfl rfl, pdraw hdd1 rfl rfl rfl,
      mov hdd1 rfl rfl rfl, pmov hdd1 rfl rfl rfl, fun h2 => ?_⟩
    have hdd : fits2 .d src1 src2 .d dest = true := fits2_of (Prec.fits_d h1) (Prec.fits_d h2) (Prec.fits_d hdest)
    exact ⟨add hdd rfl rfl rfl, add hdd rfl rfl rfl, mul hdd rfl rfl rfl, padd hdd rfl rfl rfl, padd hdd rfl rfl rfl,
      cmp hdd rfl rfl rfl, cmp hdd rfl rfl rfl, cmp hdd rfl rfl rfl, pmul hdd rfl rfl rfl, pmul hdd rfl rfl rfl,
      fun _ => ⟨both hdd rfl rfl rfl, both hdd rfl rfl rfl, both hdd rfl rfl rfl, both hdd rfl rfl rfl⟩⟩

end Sys2Proof.Machine
end

section
/-!
PROOFS. Uses that are refused: delay slots, mode transitions, register numbers, restrictions c to f, pixel sizes, stores
to data that a pfld waits to deliver, and pairs (O18).
-/
namespace Sys2Proof.Machine

/-! ## The first demand that fails -/

section
variable {b c : Bool} {r q : Refusal} {k : Eff}

theorem demand_refuse (hb : b = false) : demand b r k = .refuse r := by rw [hb, demand_false]

theorem demands_refuse (hb : b = true) (hc : c = false) : demand b r (demand c q k) = .refuse q := by
  rw [demand_of b r _ hb, demand_refuse hc]

end

/-- The effect is a refusal, and outside dual-instruction mode so is the step, where no mode change under way asks for
another D-bit (R382). -/
def State.Refuses (s : State) (i : Instr) (r : Refusal) : Prop :=
  effect i s = .refuse r ∧ (s.mode = .single → (s.armed = true → dbit i ≠ some false) → exec i s = .refused r)

theorem State.refuses_of {s : State} {i : Instr} {r : Refusal} (hc : isControl i = false)
    (he : effect i s = .refuse r) : s.Refuses i r :=
  ⟨he, fun hm hd => exec_of_refuse hm hd (by simp [hc]) he⟩

/-! ## Delay slots and mode transitions (R223, R382, R386) -/

/-- Every control transfer, trap and intovr first looks whether it stands in a delay slot. -/
theorem effect_controlInSlot {i : Instr} {s : State}
    (hi : isControl i = true ∨ (∃ a b c, i = .trap a b c) ∨ i = .intovr) (hd : s.delay.isSome = true) :
    effect i s = .refuse .controlInSlot := by
  have hslot (k : Eff) : notInSlot s k = .refuse .controlInSlot := demand_refuse (by rw [hd]; rfl)
  rcases hi with h | ⟨_, _, _, rfl⟩ | rfl
  · cases i
    case bri | calli | btneR | btneI | bteR | bteI | br | call | bc | bcT | bnc | bncT | bla => exact hslot _
    all_goals exact absurd h Bool.false_ne_true
  · exact hslot _
  · exact hslot _

/-- Outside a delay slot a transfer goes on to its other checks. -/
theorem notInSlot_of_delay {s : State} (h : s.delay = none) (k : Eff) : notInSlot s k = k := by
  rw [notInSlot, h]
  rfl

/-- A step outside dual-instruction mode ends by `retireSingle`. -/
theorem exec_single {i : Instr} {s : State} (hm : s.mode = .single) :
    exec i s = retireSingle (dbit i) (isControl i) s (effect i s) := by
  rw [exec_eq_retire, retire, hm]

theorem exec_modeExcursion {i : Instr} {s : State} (hm : s.mode = .single) (ha : s.armed = true)
    (hd : dbit i = some false) : exec i s = .refused .modeExcursion := by
  rw [exec_single hm, retireSingle, hm, ha, hd]
  rfl

theorem dbit_of_isControl {i : Instr} (h : isControl i = true) : dbit i = none := by
  cases i <;> cases h <;> rfl

theorem exec_controlInTransition {i : Instr} {s : State} (hm : s.mode = .single) (ha : s.armed = true)
    (hc : isControl i = true) : exec i s = .refused .controlInTransition := by
  rw [exec_single hm, retireSingle, hm, ha, dbit_of_isControl hc, hc]
  rfl

/-! ## Register numbers of wide operands (R33) -/

theorem isPair_iff (x : Reg) : isPair x = true ↔ x.toNat % 2 = 0 := by revert x; decide

theorem isQuad_iff (x : Reg) : isQuad x = true ↔ x.toNat % 4 = 0 := by revert x; decide

/-- A demand for every register of a list is refused where one does not fit. -/
theorem demand_all_refuse {x : Reg} {l : List Reg} {p : Reg → Bool} {b : Bool} {k : Eff} (hx : x ∈ l)
    (hp : p x = false) (hb : l.all p = b) : demand b .registerAlignment k = .refuse .registerAlignment := by
  refine demand_refuse ?_
  rw [← hb, List.all_eq_false]
  exact ⟨x, hx, by simp [hp]⟩

/-- The register numbers of 64-bit operands are the first check (R33). -/
theorem effect_oddPair {i : Instr} {s : State} {x : Reg} (hx : x ∈ doubleRegs i) (hodd : x.toNat % 2 ≠ 0) :
    effect i s = .refuse .registerAlignment := by
  have hp : isPair x = false := Bool.eq_false_iff.2 (mt (isPair_iff x).1 hodd)
  have one {a : Reg} {k : Eff} (h : x ∈ [a]) :
      demand (isPair a) .registerAlignment k = .refuse .registerAlignment :=
    demand_all_refuse h hp (Bool.and_true _)
  have two {a b : Reg} {k : Eff} (h : x ∈ [a, b]) :
      demand (isPair a && isPair b) .registerAlignment k = .refuse .registerAlignment :=
    demand_all_refuse h hp (by simp)
  have three {a b c : Reg} {k : Eff} (h : x ∈ [a, b, c]) :
      demand (isPair a && isPair b && isPair c) .registerAlignment k = .refuse .registerAlignment :=
    demand_all_refuse h hp (by simp [Bool.and_assoc])
  have source {a : Reg} {k : Eff} (h : x ∈ [a]) :
      demand (isPair a && true) .registerAlignment k = .refuse .registerAlignment :=
    demand_all_refuse h hp rfl
  have form {a b : Reg} {k : Eff} (h : x ∈ [a, b]) :
      demand (isPair a && isPair a && isPair b) .registerAlignment k = .refuse .registerAlignment :=
    demand_all_refuse h hp (by simp)
  have moved {a b : Reg} {k : Eff} (h : x ∈ [a, b]) :
      demand (isPair a && true && isPair b) .registerAlignment k = .refuse .registerAlignment :=
    demand_all_refuse h hp (by simp)
  cases i
  all_goals dsimp only [effect]
  case flddR | flddI | fstdR | fstdI | pstd => exact one hx
  case fmulSd | faddSd | fsubSd | pfmulSd | pfaddSd | pfsubSd => exact one hx
  case fixSd | pfixSd | ftruncSd | pftruncSd | frcpSd | frsqrSd => exact one hx
  case famovSd | pfamovSd | fmovSd | pfmovSd => exact one hx
  case famovDs | pfamovDs | fmovDs | pfmovDs => exact source hx
  case fixDd | pfixDd | ftruncDd | pftruncDd | frcpDd | frsqrDd | famovDd | pfamovDd => exact two hx
  case form | pform => exact form hx
  case fmovDd | pfmovDd => exact moved hx
  case fmulDd | faddDd | fsubDd | pfmulDd | pfmul3Dd | pfaddDd | pfsubDd | fmlowDd => exact three hx
  case pfamDd | pfsmDd | pfmamDd | pfmsmDd | pfgtDd | pfleDd | pfeqDd => exact three hx
  case fiaddDd | pfiaddDd | fisubDd | pfisubDd | faddp | pfaddp | faddz | pfaddz => exact three hx
  case fzchkl | pfzchkl | fzchks | pfzchks => exact three hx
  all_goals exact nomatch hx

/-- The register numbers of 128-bit operands are the first check (R33). -/
theorem effect_misalignedQuad {i : Instr} {s : State} {x : Reg} (hx : x ∈ quadRegs i) (h : x.toNat % 4 ≠ 0) :
    effect i s = .refuse .registerAlignment := by
  have hq : isQuad x = false := Bool.eq_false_iff.2 (mt (isQuad_iff x).1 h)
  have one {a : Reg} {k : Eff} (h : x ∈ [a]) :
      demand (isQuad a) .registerAlignment k = .refuse .registerAlignment :=
    demand_all_refuse h hq (Bool.and_true _)
  cases i
  case fldqR | fldqI | fstqR | fstqI => exact one hx
  all_goals exact nomatch hx

theorem isControl_of_doubleRegs {i : Instr} {x : Reg} (hx : x ∈ doubleRegs i) : isControl i = false := by
  cases i <;> cases hx <;> rfl

theorem isControl_of_quadRegs {i : Instr} {x : Reg} (hx : x ∈ quadRegs i) : isControl i = false := by
  cases i <;> cases hx <;> rfl

theorem State.refuses_registerAlignment (s : State) {i : Instr}
    (h : (∃ x ∈ doubleRegs i, x.toNat % 2 ≠ 0) ∨ ∃ x ∈ quadRegs i, x.toNat % 4 ≠ 0) :
    s.Refuses i .registerAlignment := by
  rcases h with ⟨x, hx, hodd⟩ | ⟨x, hx, hodd⟩
  · exact State.refuses_of (isControl_of_doubleRegs hx) (effect_oddPair hx hodd)
  · exact State.refuses_of (isControl_of_quadRegs hx) (effect_misalignedQuad hx hodd)

/-! ## Restrictions c to f (R170, R303, R331, R350) -/

theorem indexOk_same (x : Reg) : indexOk true x x = false := by simp [indexOk]

theorem regsOverlap_self (p : Prec) (x : Reg) : regsOverlap p x p x = true := by
  cases p <;> simp [regsOverlap, Prec.regs]

theorem regsOverlap_single_double_of {i j : Reg} (h : i = j ∨ i = j + 1) : regsOverlap .s i .d j = true := by
  simpa [regsOverlap, Prec.regs] using h

theorem mulSourceOk_overlap {sp rp : Prec} {src1 dest : Reg} (hdest : dest ≠ 0)
    (h : regsOverlap sp src1 rp dest = true) : mulSourceOk sp src1 rp dest = false := by
  rw [mulSourceOk, decide_eq_false hdest, h]
  rfl

/-- A data path that takes fsrc1 to M-op1, KR or KI (R331). -/
def DataPath.TakesSrc1 (path : DataPath) : Prop := path.m1 = .src1 ∨ path.kLoad ≠ .none

theorem dualSourceOk_same {path : DataPath} (h : path.TakesSrc1) {dest : Reg} (hdest : dest ≠ 0) (p : Prec) :
    dualSourceOk path p dest dest = false := by
  have htaken : (decide (path.m1 = .src1) || !decide (path.kLoad = .none)) = true := by
    simpa [DataPath.TakesSrc1] using h
  rw [dualSourceOk, htaken, regsOverlap_self, decide_eq_false hdest]
  rfl

theorem graphicsSourceOk_same {src1 src2 dest : Reg} (hdest : dest ≠ 0) (h : src1 = dest ∨ src2 = dest) (p : Prec) :
    graphicsSourceOk p src1 src2 dest = false := by
  have hoverlap : (regsOverlap p src1 p dest || regsOverlap p src2 p dest) = true :=
    by rcases h with rfl | rfl <;> simp [regsOverlap_self]
  rw [graphicsSourceOk, decide_eq_false hdest, hoverlap]
  rfl

/-! ## Pixel size, and stores to data that a pfld waits to deliver (R166, R167, R343) -/

theorem addPixels_pixelSize {s : State} (h : s.psr.ps = 3) (ending : Prec → Reg → DWord → State → Eff)
    (src1 src2 dest : Reg) : addPixels ending src1 src2 dest s = .refuse .pixelSize := by
  rw [addPixels, h]
  rfl

section
variable {s : State} {ea : Word} {n b : Nat} {auto : Bool} {base dest : Reg}

theorem pixelStore_pixelSize (h : s.psr.ps = 3) (ha : s.accessible ea 8) :
    pixelStore auto base dest ea s = .refuse .pixelSize := by
  rw [pixelStore, checkData_accessible ha, h]
  rfl

theorem pixelStore_pending {k : Nat} (hps : pixelBytes s.psr.ps = some b) (ha : s.accessible ea 8) (hk : k < 8 / b)
    (hpm : s.psr.pm.getLsbD k = true) (hp : s.pfldPending (ea + BitVec.ofNat 32 (k * b)) b = true) :
    pixelStore auto base dest ea s = .refuse .storeToPendingPfld := by
  have hany : ((enabledPixels s.psr.pm b).any fun i => s.pfldPending (ea + BitVec.ofNat 32 (i * b)) b) = true :=
    List.any_eq_true.2 ⟨k, mem_enabledPixels.2 ⟨hk, hpm⟩, hp⟩
  simp only [pixelStore, checkData_accessible ha, hps, hany]
  rfl

variable (ha : s.accessible ea n) (hp : s.pfldPending ea n = true)
include ha hp

theorem storeData_pending (v : BitVec 128) : storeData n v auto base ea s = .refuse .storeToPendingPfld := by
  rw [storeData, checkData_accessible ha, hp]
  rfl

/-- Every other store looks for a pending pfld once its access is made. -/
theorem effect_storeToPendingPfld {i : Instr} (hi : storesMemory i = true) (hne : ∀ a b c e, i ≠ .pstd a b c e)
    (hd : dataAccess s i = some (ea, n)) (hr : s.fpPending = true → fsrFte s.fsr = false) :
    (effect i s).EndsIn (.refuse .storeToPendingPfld) := by
  have store {v auto base} : (storeData n v auto base ea s).EndsIn (.refuse .storeToPendingPfld) :=
    fun _ => storeData_pending ha hp v
  have reported {k : Eff} (h : k.EndsIn (.refuse .storeToPendingPfld)) :
      (reportResult s k).EndsIn (.refuse .storeToPendingPfld) := by
    rw [reportResult_none s k hr]
    exact h
  cases i
  all_goals cases hi
  all_goals cases hd
  case stb | sts | stl => exact store
  case fstlI => exact reported store
  case fstlR | fstdI | fstqI => exact endsIn_demand rfl (reported store)
  case fstdR | fstqR => exact endsIn_demand rfl (endsIn_demand rfl (reported store))
  case pstd => exact absurd rfl (hne _ _ _ _)

end

/-! ## The restricted operands, form by form -/

section
variable (s : State) (d : Bool) {src1 src2 dest : Reg}

theorem State.refuses_restrictionF (x dest : Reg) :
    s.Refuses (.fldlR true x x dest) .restrictionF ∧ s.Refuses (.fstlR true x x dest) .restrictionF ∧
    s.Refuses (.pfldlR true x x dest) .restrictionF ∧ s.Refuses (.pflddR true x x dest) .restrictionF ∧
    (dest.toNat % 2 = 0 →
      s.Refuses (.flddR true x x dest) .restrictionF ∧ s.Refuses (.fstdR true x x dest) .restrictionF) ∧
    (dest.toNat % 4 = 0 →
      s.Refuses (.fldqR true x x dest) .restrictionF ∧ s.Refuses (.fstqR true x x dest) .restrictionF) := by
  have first {i k} (hc : isControl i = false) (he : effect i s = demand (indexOk true x x) .restrictionF k) :
      s.Refuses i .restrictionF := State.refuses_of hc (he.trans (demand_refuse (indexOk_same x)))
  have second {i b r k} (hb : b = true) (hc : isControl i = false)
      (he : effect i s = demand b r (demand (indexOk true x x) .restrictionF k)) : s.Refuses i .restrictionF :=
    State.refuses_of hc (he.trans (demands_refuse hb (indexOk_same x)))
  exact ⟨first rfl rfl, first rfl rfl, first rfl rfl, first rfl rfl,
    fun h => ⟨second (isPair_of h) rfl rfl, second (isPair_of h) rfl rfl⟩,
    fun h => ⟨second (isQuad_of h) rfl rfl, second (isQuad_of h) rfl rfl⟩⟩

theorem State.refuses_restrictionC (hdest : dest ≠ 0) :
    (src1 = dest → s.Refuses (.pfmulSs d src1 src2 dest) .restrictionC) ∧
    (dest.toNat % 2 = 0 → src1 = dest ∨ src1 = dest + 1 → s.Refuses (.pfmulSd d src1 src2 dest) .restrictionC) ∧
    (src2.toNat % 2 = 0 → dest.toNat % 2 = 0 → src1 = dest →
      s.Refuses (.pfmulDd d src1 src2 dest) .restrictionC ∧
      s.Refuses (.pfmul3Dd d src1 src2 dest) .restrictionC) := by
  have mul {i three sp rp} (hfit : fits2 sp src1 src2 rp dest = true) (h : regsOverlap sp src1 rp dest = true)
      (hc : isControl i = false) (he : effect i s = pipedMultiplier three sp rp src1 src2 dest s) :
      s.Refuses i .restrictionC := State.refuses_of hc (he.trans (demands_refuse hfit (mulSourceOk_overlap hdest h)))
  have hss : fits2 .s src1 src2 .s dest = true := rfl
  refine ⟨fun h => ?ss, fun h3 h => ?sd, fun h2 h3 h => ?dd⟩
  case ss => exact mul hss (h ▸ regsOverlap_self .s src1) rfl rfl
  case sd => exact mul (fits2_of rfl rfl (Prec.fits_d h3)) (regsOverlap_single_double_of h) rfl rfl
  case dd =>
    subst h
    have hdd := fits2_of (Prec.fits_d h3) (Prec.fits_d h2) (Prec.fits_d h3)
    exact ⟨mul hdd (regsOverlap_self .d src1) rfl rfl, mul hdd (regsOverlap_self .d src1) rfl rfl⟩

theorem State.refuses_restrictionD (dpc : BitVec 4) (hdest : dest ≠ 0) :
    ((dataPathA dpc).TakesSrc1 →
      s.Refuses (.pfamSs dpc d dest src2 dest) .restrictionD ∧
      s.Refuses (.pfsmSs dpc d dest src2 dest) .restrictionD ∧
      (src2.toNat % 2 = 0 → dest.toNat % 2 = 0 →
        s.Refuses (.pfamDd dpc d dest src2 dest) .restrictionD ∧
        s.Refuses (.pfsmDd dpc d dest src2 dest) .restrictionD)) ∧
    ((dataPathM dpc).TakesSrc1 →
      s.Refuses (.pfmamSs dpc d dest src2 dest) .restrictionD ∧
      s.Refuses (.pfmsmSs dpc d dest src2 dest) .restrictionD ∧
      (src2.toNat % 2 = 0 → dest.toNat % 2 = 0 →
        s.Refuses (.pfmamDd dpc d dest src2 dest) .restrictionD ∧
        s.Refuses (.pfmsmDd dpc d dest src2 dest) .restrictionD)) := by
  have dual {i f toMul path p} (h : path.TakesSrc1) (hfit : fits2 p dest src2 p dest = true)
      (hc : isControl i = false) (he : effect i s = dualOperation f toMul path p dest src2 dest s) :
      s.Refuses i .restrictionD := State.refuses_of hc (he.trans (demands_refuse hfit (dualSourceOk_same h hdest p)))
  have hss : fits2 .s dest src2 .s dest = true := rfl
  have hdd (h2 : src2.toNat % 2 = 0) (h3 : dest.toNat % 2 = 0) : fits2 .d dest src2 .d dest = true :=
    fits2_of (Prec.fits_d h3) (Prec.fits_d h2) (Prec.fits_d h3)
  exact ⟨fun h => ⟨dual h hss rfl rfl, dual h hss rfl rfl,
      fun h2 h3 => ⟨dual h (hdd h2 h3) rfl rfl, dual h (hdd h2 h3) rfl rfl⟩⟩,
    fun h => ⟨dual h hss rfl rfl, dual h hss rfl rfl,
      fun h2 h3 => ⟨dual h (hdd h2 h3) rfl rfl, dual h (hdd h2 h3) rfl rfl⟩⟩⟩

theorem State.refuses_restrictionE (hdest : dest ≠ 0) (h : src1 = dest ∨ src2 = dest) :
    s.Refuses (.pfiaddSs d src1 src2 dest) .restrictionE ∧ s.Refuses (.pfisubSs d src1 src2 dest) .restrictionE ∧
    (src1 = dest → s.Refuses (.pfmovSs d src1 dest) .restrictionE) ∧
    (src1.toNat % 2 = 0 → src2.toNat % 2 = 0 → dest.toNat % 2 = 0 →
      s.Refuses (.pfiaddDd d src1 src2 dest) .restrictionE ∧ s.Refuses (.pfisubDd d src1 src2 dest) .restrictionE ∧
      s.Refuses (.pfaddp d src1 src2 dest) .restrictionE ∧ s.Refuses (.pfaddz d src1 src2 dest) .restrictionE ∧
      (src1 = dest → s.Refuses (.pform d src1 dest) .restrictionE ∧
        s.Refuses (.pfmovDd d src1 dest) .restrictionE)) := by
  have overlap {i p src2 k} (hfit : graphicsFits p src1 src2 dest = true) (h : src1 = dest ∨ src2 = dest)
      (hc : isControl i = false) (he : effect i s = demand (graphicsFits p src1 src2 dest) .registerAlignment
        (demand (graphicsSourceOk p src1 src2 dest) .restrictionE k)) : s.Refuses i .restrictionE :=
    State.refuses_of hc (he.trans (demands_refuse hfit (graphicsSourceOk_same hdest h p)))
  have hss (src2 : Reg) : graphicsFits .s src1 src2 dest = true := rfl
  refine ⟨overlap (hss _) h rfl rfl, overlap (hss _) h rfl rfl, fun h => overlap (hss _) (.inl h) rfl rfl,
    fun h1 h2 h3 => ?double⟩
  case double =>
    have hdd := graphicsFits_double h1 h2 h3
    exact ⟨overlap hdd h rfl rfl, overlap hdd h rfl rfl, overlap hdd h rfl rfl, overlap hdd h rfl rfl,
      fun h => ⟨overlap (graphicsFits_double h1 h1 h3) (.inl h) rfl rfl,
        overlap (graphicsFits_double h1 rfl h3) (.inl h) rfl rfl⟩⟩

variable (hr : s.fpPending = true → fsrFte s.fsr = false)
include hr

theorem State.refuses_addPixels (hps : s.psr.ps = 3) (h1 : src1.toNat % 2 = 0) (h2 : src2.toNat % 2 = 0)
    (h3 : dest.toNat % 2 = 0) :
    s.Refuses (.faddp d src1 src2 dest) .pixelSize ∧
    (dest = 0 ∨ src1 ≠ dest ∧ src2 ≠ dest → s.Refuses (.pfaddp d src1 src2 dest) .pixelSize) := by
  have hfit := graphicsFits_double h1 h2 h3
  have size {ending} : reportResult s (addPixels ending src1 src2 dest s) = .refuse .pixelSize :=
    (reportResult_none s _ hr).trans (addPixels_pixelSize hps _ _ _ _)
  refine ⟨State.refuses_of rfl ?scalar, fun h => State.refuses_of rfl ?piped⟩
  case scalar => exact (demand_of _ _ _ hfit).trans size
  case piped =>
    exact (demand_of _ _ _ hfit).trans ((demand_of _ _ _ (graphicsSourceOk_double h1 h2 h3 h)).trans size)

theorem State.refuses_pstd {auto : Bool} {off : BitVec 13} (hdest : dest.toNat % 2 = 0) {r : Refusal}
    (h : pixelStore auto src2 dest (offset13 off + s.R src2) s = .refuse r) :
    s.Refuses (.pstd auto off src2 dest) r :=
  State.refuses_of rfl ((demand_of _ _ _ (isPair_of hdest)).trans ((reportResult_none s _ hr).trans h))

end

/-! ## Pairs (R381, R383, R384, R386) -/

/-- call and calli are not for dual-instruction mode (R385). -/
theorem effect_callInDual {ci : Instr} {s : State} (hm : s.mode = .dual) (hd : s.delay = none)
    (h : (∃ off, ci = .call off) ∨ ∃ src1, ci = .calli src1) : effect ci s = .refuse .callInDual := by
  have hmode : decide (s.mode = .single) = false := by rw [hm]; rfl
  rcases h with ⟨_, rfl⟩ | ⟨_, rfl⟩
  · exact (notInSlot_of_delay hd _).trans (demand_refuse hmode)
  · exact (notInSlot_of_delay hd _).trans (demand_refuse hmode)

section
variable {s : State} {fi ci : Instr} {d : Bool} {r : Refusal} (h : PairReady s fi ci d)
include h

/-- A refusal of the floating-point half, unless the word of the core half brings another (R411). -/
theorem PairReady.step_fp_refused (hf : effect fi s = .refuse r)
    (hr : r.static = true ∨ (effect ci s).staticRefusal = none) : step s = .refused r := by
  have hstep := h.step_eq (ec := effect ci s) (by rw [hf]; rfl)
  rw [hstep, hf]
  exact hr.elim (pairOutcome_fp_static s _ _) (pairOutcome_fp_refused s _ _ r)

/-- A refusal of the core half's word comes before the floating-point half ends (R411). -/
theorem PairReady.step_core_static (hf : (effect fi s).staticRefusal = none) (hr : r.static = true)
    (hc : effect ci { s with free := (effect fi s).freeAfter s } = .refuse r) : step s = .refused r :=
  (h.step_eq hc).trans (pairOutcome_core_static s _ _ hf hr)

/-- Any other refusal of the core half comes where the floating-point half completes (R387). -/
theorem PairReady.step_core_refused {sf : State} {c : Ctl} (hf : effect fi s = .ok sf c)
    (hc : effect ci { s with free := sf.free } = .refuse r) : step s = .refused r := by
  have hstep := h.step_eq (ec := .refuse r) (by rw [hf]; exact hc)
  rw [hstep, hf]
  exact pairOutcome_core_refused s _ sf c r

end

/-! ## The refused uses -/

/-- Settles O18: each use fails a demand of its instruction, of the end of the step, or of the pair. -/
theorem restrictedUsesAreRefused : Obligations.RestrictedUsesAreRefused := by
  refine ⟨fun i s hi hm ha hd => ?slot, fun s hs => ?calli, fun s hd => ?transfer, fun s hm => ?transition,
    fun s => ?operands, fun s hm hi => ?pair⟩
  case slot => exact exec_of_refuse hm (by simp [ha]) (fun _ => ha) (effect_controlInSlot hi hd)
  case calli =>
    refine ⟨refused_of_transferReady hs rfl (effect_calli hs 1), fun src1 hreg halign => ?_⟩
    refine refused_of_transferReady hs rfl ((effect_calli hs src1).trans (demands_refuse ?_ (decide_eq_false halign)))
    rw [decide_eq_false hreg]
    rfl
  case transfer =>
    intro refuses
    have control {i r} (hd : dbit i = none) (he : effect i s = .refuse r) : refuses i r :=
      ⟨he, fun hm ha => exec_of_refuse hm (by simp [hd]) (fun _ => ha) he⟩
    refine ⟨fun src1 halign => control rfl ?_, fun src1 off => control rfl ?_⟩
    · exact (notInSlot_of_delay hd _).trans (demand_refuse (decide_eq_false halign))
    · exact (notInSlot_of_delay hd _).trans (demand_refuse (by simp))
  case transition =>
    exact ⟨fun i ha hd => exec_modeExcursion hm ha hd, fun i ha hc => exec_controlInTransition hm ha hc⟩
  case operands =>
    intro refuses unreported
    refine ⟨fun i h => s.refuses_registerAlignment h, s.refuses_restrictionF,
      fun d src1 src2 dest hdest => s.refuses_restrictionC d hdest,
      fun dpc d src2 dest hdest => s.refuses_restrictionD d dpc hdest,
      fun d src1 src2 dest hdest h => s.refuses_restrictionE d hdest h,
      fun d src1 src2 dest hr hps h1 h2 h3 => s.refuses_addPixels d hr hps h1 h2 h3,
      fun auto off src2 dest hr hdest => ?pixels, fun i ea n hi hne hd hr ha hp hstatic => ?store⟩
    case pixels =>
      rw [← offset13_eq]
      intro ea ha
      exact ⟨fun hps => s.refuses_pstd hr hdest (pixelStore_pixelSize hps ha),
        fun b k hps hk hpm hp => s.refuses_pstd hr hdest (pixelStore_pending hps ha hk hpm hp)⟩
    case store =>
      exact State.refuses_of (dataAccess_core hd).2 (effect_storeToPendingPfld ha hp hi hne hd hr hstatic)
  case pair =>
    refine ⟨step_misalignedPair hm hi, fun fi ci hpc hf hc => ?_⟩
    have hstep : step s = runPair fi ci s := step_pair hm hi hpc hf hc.fetch_eq
    refine ⟨fun h => hstep.trans (runPair_wrongHalves h s), fun d hd hfp => ?_⟩
    rw [hstep, runPair_eq hd hfp]
    refine ⟨fun ha hone => retirePair_excursion ha hone, fun hzero hcontrol => ?transition,
      fun harmed hcontrol => ⟨fun hconflict => ?conflict, fun hconflict => ?admitted⟩⟩
    case transition => exact retirePair_transition (fun _ => hzero) hcontrol hzero
    case conflict =>
      rw [(pairConflict_iff s fi ci).2 hconflict]
      exact retirePair_conflict harmed hcontrol
    case admitted =>
      have hready : PairReady s fi ci d := by
        refine ⟨hm, hpc, hi, hf, hc, hd, by simp [secondHalf, hfp],
          Bool.eq_false_iff.2 (mt (pairConflict_iff s fi ci).1 hconflict), harmed, fun hci => ⟨?_, hcontrol hci⟩⟩
        exact Bool.eq_false_iff.2 fun ha => Bool.false_ne_true ((harmed ha).symm.trans (hcontrol hci))
      rw [← runPair_eq hd hfp, ← hstep]
      refine ⟨fun r he hr => hready.step_fp_refused he hr, fun hstatic => ?_⟩
      exact ⟨fun r hr he => hready.step_core_static hstatic hr he,
        fun sf c r he hec => hready.step_core_refused he hec,
        fun hdelay h => hready.step_core_static hstatic rfl (effect_callInDual hm hdelay h),
        fun hdelay h => hready.step_core_static hstatic rfl (effect_controlInSlot h hdelay)⟩

end Sys2Proof.Machine
end
